-- ==== Sys2Proof/Word.lean ====
section
/-! DEFINITION. The words of the part: bytes, 32- and 64-bit fields, station numbers and counters. -/

namespace Sys2Proof

/-- One byte of a frame, a message, a management write or a segment buffer. -/
abbrev Byte := BitVec 8

/-- A 32-bit field: tickets, sequences, epochs, check values. -/
abbrev Word32 := BitVec 32

/-- A 64-bit field: collection tags, affinity keys, timestamps. -/
abbrev Word64 := BitVec 64

/-- A station number, 0-31 (Conventions, "Station numbers"). -/
abbrev Station := Fin 32

/-- A counter: 32 bits, saturating at 4,294,967,295 (Conventions, "Counters"). -/
abbrev Counter := BitVec 32

end Sys2Proof
end

