-- ==== Sys2Proof/Syntax.lean ====
section
/-! DEFINITION. The commands of the part: one constructor per row of spec/opcode_table.json, with the
operands that the arrival or event brings. -/

namespace Sys2Proof

/-- One frame of a given kind as the medium delivers it (R24), without its kind byte, which the command
names. Every field is the raw one, so a frame with a bad check, a wrong length field, a foreign target or a field out
of range is a value of this type like any other. -/
structure Frame where
  sender     : Byte
  target     : Byte
  bodyLength : BitVec 16
  body       : List Byte
  check      : Word32
deriving DecidableEq, Repr

/-- How a run-mode command was written (R203): its own short code, or RUN-MODE with its mode byte. -/
inductive ModeForm where
  | short
  | runMode
deriving DecidableEq, Repr

/-- The commands, in the order of the table. A management command carries the bytes of its write after the
command byte (after the mode byte in the RUN-MODE form); a drain-port message carries its bytes after the kind byte. -/
inductive Instr where
  /-- HARD_RESET (R39): power-on or the RESET pin, with the five strap pins as sampled. -/
  | hardReset (straps : Station)
  /-- BUFFER_SELF_TEST (R155): the bytes that read back differently in the 0x55 pass and in the 0xAA pass, each as
  (offset in the buffer, byte read); an offset not listed reads back as written. -/
  | bufferSelfTest (read55 readAA : List Host.Cell)
  /-- ENTRY_TO_HALTED (R204): the pool's report that fewer than 24 buffers are in service. -/
  | entryToHalted
  /-- OFFER (R43): a frame of kind 0x21. -/
  | offer (f : Frame)
  /-- WITHDRAW (R112): a frame of kind 0x22. -/
  | withdraw (f : Frame)
  /-- GRANT (R82): a frame of kind 0x23. -/
  | grant (f : Frame)
  /-- REFUSE (R88): a frame of kind 0x24. -/
  | refuse (f : Frame)
  /-- DATA (R128): a frame of kind 0x25. -/
  | data (f : Frame)
  /-- CLAIM (R51): a frame of kind 0x41. -/
  | claim (f : Frame)
  /-- FETCH (R32): a frame of kind 0x42. -/
  | fetch (f : Frame)
  /-- RELEASE (R32): a frame of kind 0x43. -/
  | release (f : Frame)
  /-- BEACON (R59): a frame of kind 0x44. -/
  | beacon (f : Frame)
  /-- MEDIUM_TAKES_FRAME (R34). -/
  | mediumTakesFrame
  /-- MEDIUM_REFUSES_FRAME (R34). -/
  | mediumRefusesFrame
  /-- CONTEST_EXPIRY (R52): the clock reaches the contested-until of this pair's entry. -/
  | contestExpiry (source : Station) (ticket : Word32)
  /-- PEER_SWEEP (R61). -/
  | peerSweep
  /-- SWEEP_TIMER (R74). -/
  | sweepTimer
  /-- BEACON_TIMER (R65). -/
  | beaconTimer
  /-- CLAIM_TIMEOUT (R90): the clock reaches the deadline of this pair's pending claim. -/
  | claimTimeout (source : Station) (ticket : Word32)
  /-- AGE_DEADLINE (R109). -/
  | ageDeadline
  /-- FETCH_TIMEOUT (R134): the clock reaches the deadline of this fetch slot. -/
  | fetchTimeout (slot : Fin 4)
  /-- DRAIN_TIMEOUT (R170). -/
  | drainTimeout
  /-- READY (R164): a message of kind 0x83. -/
  | ready (fields : List Byte)
  /-- STORED (R169): a message of kind 0x81. -/
  | stored (fields : List Byte)
  /-- FAULT (R171): a message of kind 0x82. -/
  | fault (fields : List Byte)
  /-- COPY_COMPLETION (R184): the running copy completes. -/
  | copyCompletion
  /-- IDENTIFY (R197). -/
  | identify (params : List Byte)
  /-- STATUS (R197). -/
  | status (params : List Byte)
  /-- COUNTERS (R198). -/
  | counters (params : List Byte)
  /-- CONFIGURE (R199). -/
  | configure (params : List Byte)
  /-- START (R201). -/
  | start (params : List Byte)
  /-- CLOSE_NOW (R203). -/
  | closeNow (form : ModeForm) (params : List Byte)
  /-- QUIESCE (R203). -/
  | quiesce (form : ModeForm) (params : List Byte)
  /-- RESUME (R203). -/
  | resume (form : ModeForm) (params : List Byte)
  /-- TAKE_RECORD (R205). -/
  | takeRecord (params : List Byte)
  /-- RESTART (R204). -/
  | restart (params : List Byte)
  /-- UNKNOWN_COMMAND (R196): a whole write whose command byte is not a known code. -/
  | unknownCommand (write : List Byte)
  /-- RESPONSE_READ (R195): a read of this many bytes. -/
  | responseRead (count : Nat)
  /-- CHECK_ERROR_FRAME (R27): the whole delimited frame. -/
  | checkErrorFrame (bytes : List Byte)
  /-- UNKNOWN_KIND_FRAME (R28): a frame with this kind byte. -/
  | unknownKindFrame (kind : Byte) (f : Frame)
  /-- UNKNOWN_DRAIN_MESSAGE (R162): the whole message, its kind byte included. -/
  | unknownDrainMessage (message : List Byte)
deriving DecidableEq, Repr

end Sys2Proof
end

