-- ==== Sys2Proof/Config.lean ====
section
/-! DEFINITION. What is fixed outside a run: the configuration record with its defaults (R199), and
the values the manual leaves open, as constants with no body. -/

namespace Sys2Proof

/-- The configuration record (R199), one field per row of its table, in that order. A field initialiser is the
default that hard reset sets. -/
structure ConfigRecord where
  epoch        : Word32 := 0
  baseTime     : Word64 := 0
  rotation     : Nat := 0
  keyMask      : Word64 := BitVec.allOnes 64
  packLimit    : Nat := 4096
  closeMargin  : Nat := 2047
  strayAge     : Nat := 300
  admitFloor   : Nat := 0
  beaconSecs   : Nat := 5
  claimTimeout : Nat := 200
  pendingMax   : Nat := 4
  fetchTimeout : Nat := 500
  fetchSlots   : Nat := 4
  packAgeLimit : Nat := 3600
  drainTimeout : Nat := 5000
  purge        : Bool := false
deriving DecidableEq, Repr

/-- The timestamp the part writes where the configured base time plus the seconds since START does not fit
the 8-byte field: the manual states no result there, so the value is free (log entry 4). -/
opaque Config.timestampBeyondField : Word64 → Nat → Word64

end Sys2Proof
end

