-- ==== Sys2Proof/Machine/State.lean ====
section
/-! DEFINITION. The state of the part: what each of the ten blocks holds (00_scope, "Block overview"), the counters,
the segment-buffer memory, the queue of waiting commands, and the state right after a hard reset. -/

namespace Sys2Proof.Machine

/-! ### Names -/

/-- The two pack slots (R98). -/
inductive SlotId where
  | a | b
deriving DecidableEq, Repr

/-- The run states (R202). -/
inductive RunState where
  | selftest | config | run | quiescing | quiet | halted
deriving DecidableEq, Repr

/-- The states of a pack slot (chapter 6, section 6.1). `opened` is the manual's OPEN. -/
inductive SlotState where
  | free | forming | opened | closing | closed | ending | carrying | aborted
deriving DecidableEq, Repr

/-- Why a member is VOID (R106). -/
inductive VoidReason where
  | checksum | fetch | withdrawn
deriving DecidableEq, Repr

/-- The states of a member (R121). -/
inductive MemberState where
  | granted | fetching | done | void (why : VoidReason) | copying
deriving DecidableEq, Repr

/-- The states a BEACON reports (R26). -/
inductive PackPhase where
  | opened | closing | closed | aborted
deriving DecidableEq, Repr

/-- The causes of an abort (R177). -/
inductive AbortCause where
  | media | offline | timeout | damage | restart | halt
deriving DecidableEq, Repr

/-- The outcome in a pack record (R117, R190). -/
inductive PackOutcome where
  | ended | aborted (cause : AbortCause)
deriving DecidableEq, Repr

/-- The reasons of a RELEASE (R187). -/
inductive ReleaseReason where
  | late | checksum | fetch | abort | full | restart
deriving DecidableEq, Repr

/-- The states of a segment buffer (R143). -/
inductive BufferState where
  | free | filling | ready | draining | held | retired
deriving DecidableEq, Repr

/-- The drain port's own state (R164). -/
inductive PortState where
  | down | up
deriving DecidableEq, Repr

/-- The status byte of a response (R196). -/
inductive Status where
  | done | wrongState | badMask | empty | unknown | short | busy
deriving DecidableEq, Repr

/-- The counters, in the order of their banks and, within a bank, of the block's counter table (R198). -/
inductive Ctr where
  -- bank 0, link interface (R38)
  | framesAccepted | checkErrors | malformedFrames | ownNumberFrames | framesPassedOver | framesSent | transmitDrops
  -- bank 1, offer table (R56)
  | heldFileOffers | oversizeOffers | candidateEvictions | candidatesTakenElsewhere | candidatesWithdrawn
  -- bank 2, peer view (R70)
  | beaconsHeard | peerEntriesExpired | yields
  -- bank 3, selector (R95)
  | claimsSent | claimsPlaced | claimsLost | claimsRefusedTaken | claimsRefusedWithdrawn | claimsRefusedUnknown
  | claimsWithdrawn | claimTimeouts | lateGrants | abortedClaimGrants | duplicateGrants | strayRefusals
  -- bank 4, pack builder (R120)
  | packsOpened | formsAbandoned | closesByRoom | closesByMemberLimit | closesByAge | closesByCommand
  | closesByQuiesce | closesByYield | packsEnded | doneMembersWithdrawn | lateWithdraws
  -- bank 5, fetch engine (R141)
  | fetchesSent | dataAccepted | membersDone | checksumVoids | fetchGaps | fetchOverruns | fetchShorts
  | fetchTimeouts | withdrawnBeforeFetch | withdrawnDuringFetch | strayData
  -- bank 6, segment pool (R157)
  | segmentsCommitted | buffersStored | selfTestRetirements | sendCheckRetirements
  -- bank 7, drain engine (R176)
  | packStartsSent | segmentsSent | packEndsSent | abandonsSent | storedAccepted | strayStored | mediaFaults
  | offlineFaults | strayFaults | drainTimeouts | portUp | repeatedReady | malformedDrainMessages
  -- bank 8, abort and release unit (R193)
  | packsAbortedMedia | packsAbortedOffline | packsAbortedTimeout | packsAbortedDamage | packsAbortedRestart
  | packsAbortedHalt | membersCarried | carriesWithoutTarget | copiesCompleted | copiesStopped | releasesQueued
  | releasesSent | releaseOverflows
  -- bank 9, management unit (R207)
  | commandsDone | commandsRefused | commandsBusy | responsesReplacedUnread | halts
deriving DecidableEq, Repr

/-! ### Records of the blocks -/

/-- A pair (source station, ticket): the identity of a file on the link (Conventions, "File identity"). -/
structure FilePair where
  source : Station
  ticket : Word32
deriving DecidableEq, Repr

/-- The fields of an offer that travel with the file from candidate to claim to member (R41, R73, R106). -/
structure FileInfo where
  pair : FilePair
  tag  : Word64
  size : Nat
  crc  : Word32
  cls  : Nat
  name : List Byte
deriving DecidableEq, Repr

/-- A contest mark (R51): its end time, or pending while the clock does not run. -/
inductive Contest where
  | pendingEnd
  | endsAt (t : Nat)
deriving DecidableEq, Repr

/-- An entry of the candidate list (R41). -/
structure Candidate where
  file       : FileInfo
  key        : Option Word64
  firstHeard : Option Nat
  contest    : Option Contest
deriving DecidableEq, Repr

/-- An entry of the beacon table (R58); `lastHeard` is absent while it is pending (R60). -/
structure PeerEntry where
  station   : Station
  phase     : PackPhase
  key       : Word64
  fill      : Nat
  lastHeard : Option Nat
deriving DecidableEq, Repr

/-- An item of the beacon list: the fields of one BEACON body and the slot it describes (R63). -/
structure BeaconItem where
  slot    : SlotId
  epoch   : Word32
  seq     : Word32
  phase   : PackPhase
  key     : Word64
  fill    : Nat
  members : Nat
deriving DecidableEq, Repr

/-- The phase of a pending claim, with its deadline once SENT (R73). -/
inductive ClaimPhase where
  | waiting
  | sent (deadline : Nat)
deriving DecidableEq, Repr

/-- An entry of the pending claim table (R73); an entry with no slot is an orphan (R92). -/
structure Claim where
  file  : FileInfo
  key   : Word64
  slot  : Option SlotId
  phase : ClaimPhase
deriving DecidableEq, Repr

/-- A member record (R106) together with its extent, which is its head usable number and footprint (R6). The
member index is its place in the table. -/
structure Member where
  file        : FileInfo
  key         : Word64
  headN       : Nat
  footprint   : Nat
  state       : MemberState
  carried     : Bool
  released    : Bool
  dataPresent : Bool
deriving DecidableEq, Repr

/-- A pack record (R117, R190, R205). -/
structure PackRecord where
  station    : Station
  epoch      : Word32
  seq        : Word32
  outcome    : PackOutcome
  segments   : Nat
  members    : Nat
  voids      : Nat
  carriedOut : Nat
  released   : Nat
  key        : Word64
  openTime   : Word64
  closeTime  : Word64
deriving DecidableEq, Repr

/-- What the manifest records of one member (R19). -/
structure ManifestEntry where
  file        : FileInfo
  state       : MemberState
  carried     : Bool
  dataPresent : Bool
  headN       : Nat
deriving DecidableEq, Repr

/-- The manifest's contents, fixed at entry to CLOSED (R18, R115). -/
structure Manifest where
  headN      : Nat
  entries    : List ManifestEntry
  closeTime  : Word64
  packLength : Nat
deriving DecidableEq, Repr

/-- A pack slot (R98). `taken` is the number of segments for which a buffer has been taken, which is the manual's
h + 1 (h = -1 at forming); the capacity U is 2,047 * limit - 1. The member table holds each member's extent, in
placement order. `commitPoint` is the pool's (R147), absent when cleared. `record` is the record an abort has begun and
holds back while the slot is CARRYING (R183, R191). -/
structure Slot where
  state        : SlotState := .free
  seq          : Word32 := 0
  tentativeKey : Option Word64 := none
  primaryKey   : Option Word64 := none
  openTime     : Option Word64 := none
  openClock    : Option Nat := none
  limit        : Nat := 0
  e            : Nat := 0
  taken        : Nat := 0
  members      : List Member := []
  ageDeadline  : Option Nat := none
  manifest     : Option Manifest := none
  commitPoint  : Option Nat := none
  record       : Option PackRecord := none
deriving DecidableEq, Repr

/-- A reference to a member: pack slot and member index (R123). -/
structure MemberRef where
  slot  : SlotId
  index : Nat
deriving DecidableEq, Repr

/-- The phase of a BUSY fetch slot (R124). -/
inductive FetchPhase where
  | waiting
  | receiving (deadline : Nat)
deriving DecidableEq, Repr

/-- What a BUSY fetch slot holds (R124). -/
structure Fetch where
  member   : MemberRef
  pair     : FilePair
  size     : Nat
  crc      : Word32
  headN    : Nat
  phase    : FetchPhase
  received : Nat
  running  : Word32
deriving DecidableEq, Repr

/-- A segment buffer: its state and the slot and segment it is bound to (R143). Its contents are in the memory. -/
structure Buffer where
  state : BufferState := .free
  bound : Option (SlotId × Nat) := none
deriving DecidableEq, Repr

/-- An entry of the drain queue (R160, R163), with the sequence that orders it. -/
structure DrainEntry where
  slot    : SlotId
  seq     : Word32
  segment : Nat
  buffer  : Fin 64
deriving DecidableEq, Repr

/-- A message of the window (R160). -/
inductive WindowMsg where
  | segment (k : Nat)
  | packEnd
deriving DecidableEq, Repr

/-- The drain engine's current pack (R160, R165). -/
structure CurrentPack where
  slot    : SlotId
  epoch   : Word32
  seq     : Word32
  next    : Nat
  stored  : Nat
  endSent : Bool
deriving DecidableEq, Repr

/-- An abandon record (R172, R173). -/
structure AbandonRecord where
  epoch  : Word32
  seq    : Word32
  stored : Nat
deriving DecidableEq, Repr

/-- A record of the release list (R187). -/
structure Release where
  pair   : FilePair
  reason : ReleaseReason
deriving DecidableEq, Repr

/-- A copy of the copy queue (R184). -/
structure Copy where
  source     : SlotId
  sourceHead : Nat
  footprint  : Nat
  target     : MemberRef
  targetHead : Nat
deriving DecidableEq, Repr

/-- The frame in the transmit holder, formed and final, with its refusal count (R34). -/
structure HeldFrame where
  bytes    : List Byte
  refusals : Nat
deriving DecidableEq, Repr

/-- The response in the response holder, and whether it has been read (R195). -/
structure Response where
  status : Status
  data   : List Byte
  read   : Bool
deriving DecidableEq, Repr

/-- A message the part hands to the drain line (R161). -/
inductive DrainMessage where
  | packStart (station : Station) (epoch seq : Word32) (limit : Nat) (key openTime : Word64)
  | segment (station : Station) (epoch seq : Word32) (number : Nat) (cells : List Byte)
  | packEnd (station : Station) (epoch seq : Word32) (length members : Nat)
  | abandon (station : Station) (epoch seq : Word32) (stored : Nat)
deriving DecidableEq, Repr

/-- What leaves the part: a frame the medium took, a message handed to the drain line, the bytes of a
management read. -/
inductive Emission where
  | frame (bytes : List Byte)
  | message (m : DrainMessage)
  | readBytes (bytes : List Byte)
deriving DecidableEq, Repr

/-! ### The blocks -/

/-- LIF: the station number and the transmit holder (R34, R39). -/
structure Lif where
  station : Station := 0
  holder  : Option HeldFrame := none
deriving DecidableEq, Repr

/-- OFT: the candidate list, front first (R41). -/
structure Oft where
  candidates : List Candidate := []
deriving DecidableEq, Repr

/-- PVW: the beacon table, by rising station number; the beacon list, front first; the beacon timer's expiry while it
runs; the next sweep while the clock runs (R58, R61, R63, R65). -/
structure Pvw where
  table   : List PeerEntry := []
  items   : List BeaconItem := []
  timer   : Option Nat := none
  sweepAt : Option Nat := none
deriving DecidableEq, Repr

/-- SEL: the pending claim table, in order of admission, and the sweep timer's expiry while it runs (R73, R74). -/
structure Sel where
  claims  : List Claim := []
  sweepAt : Option Nat := none
deriving DecidableEq, Repr

/-- PKB: the two pack slots and the next sequence N (R98, R100). -/
structure Pkb where
  slotA   : Slot := {}
  slotB   : Slot := {}
  nextSeq : Word32 := 0
deriving DecidableEq, Repr

/-- FEN: the fetch order queue, the fetch slots and the FETCH list (R123, R124, R126). -/
structure Fen where
  queue : List MemberRef := []
  slots : Vector (Option Fetch) 4 := Vector.replicate 4 none
  items : List (Fin 4) := []
deriving DecidableEq, Repr

/-- SPL: the 64 buffers, the promised count, and how many buffers the self-test has tested (R143, R145, R155). -/
structure Spl where
  buffers  : Vector Buffer 64 := Vector.replicate 64 {}
  promised : Nat := 0
  tested   : Nat := 0
deriving DecidableEq, Repr

/-- DRN: port state, drain queue, current pack, window, abandon list and drain timeout (R160). -/
structure Drn where
  port     : PortState := .down
  queue    : List DrainEntry := []
  current  : Option CurrentPack := none
  window   : List WindowMsg := []
  abandon  : Option AbandonRecord := none
  deadline : Option Nat := none
deriving DecidableEq, Repr

/-- ARU: the release list and the copy queue, fronts first (R184, R187). -/
structure Aru where
  releases : List Release := []
  copies   : List Copy := []
deriving DecidableEq, Repr

/-- MGT: configuration record, whether it is frozen, the clock (absent while it does not run), run state, pack
record queue, response holder, and whether a RESTART is in progress (R195-R205). -/
structure Mgt where
  config     : ConfigRecord := {}
  frozen     : Bool := false
  clock      : Option Nat := none
  run        : RunState := .selftest
  records    : List PackRecord := []
  response   : Option Response := none
  restarting : Bool := false
  /-- The model's own (log entry 31): a RESTART out of HALTED is on its way straight back to HALTED, and the attention output stays asserted. -/
  attentionHeld : Bool := false
deriving DecidableEq, Repr

/-- The segment-buffer memory: (address, byte) pairs, addresses strictly rising, none holding what an unlisted
address reads as. Byte j of cell c of buffer b is at 1,048,576 * b + 512 * c + j. -/
abbrev Memory := List Host.Cell

/-- The whole state. `wake` and `emitted` are the model's own (log entry 17): whether a wake-up has reached the selector
within the current step, and what has left the part in the latest command. `pending` is the queue of commands that
wait, first in, first out. -/
structure State where
  lif      : Lif := {}
  oft      : Oft := {}
  pvw      : Pvw := {}
  sel      : Sel := {}
  pkb      : Pkb := {}
  fen      : Fen := {}
  spl      : Spl := {}
  drn      : Drn := {}
  aru      : Aru := {}
  mgt      : Mgt := {}
  counters : Vector Counter 84 := Vector.replicate 84 0
  mem      : Memory := []
  wake     : Bool := false
  emitted  : List Emission := []
  pending  : List Instr := []
deriving DecidableEq, Repr

/-- The part right after a hard reset (R39, R57, R71, R96, R119, R142, R158, R175, R194, R204): every block as its chapter
gives it, run state SELFTEST, no command waiting. The station number is the straps'; the record here stands for straps
at 0 (log entry 5). -/
def State.reset : State := {}

/-- The faults of the part. There are none: the manual gives every command an effect in every state (a frame or message
out of place is discarded and counted, a management write is answered), so no step of this model stops. -/
inductive Fault where
deriving DecidableEq, Repr

/-- The refusals of the part. -/
inductive Refusal where
  /-- Raised by an arm of `exec` whose command has no meaning yet; safe. No arm raises it in this model. -/
  | notModelled (mnemonic : String)
deriving DecidableEq, Repr

/-! ### Named updates, one per field -/

/-- The state with another link interface. -/
def State.withLif (s : State) (x : Lif) : State := { s with lif := x }
/-- The state with another offer table. -/
def State.withOft (s : State) (x : Oft) : State := { s with oft := x }
/-- The state with another peer view. -/
def State.withPvw (s : State) (x : Pvw) : State := { s with pvw := x }
/-- The state with another selector. -/
def State.withSel (s : State) (x : Sel) : State := { s with sel := x }
/-- The state with another pack builder. -/
def State.withPkb (s : State) (x : Pkb) : State := { s with pkb := x }
/-- The state with another fetch engine. -/
def State.withFen (s : State) (x : Fen) : State := { s with fen := x }
/-- The state with another segment pool. -/
def State.withSpl (s : State) (x : Spl) : State := { s with spl := x }
/-- The state with another drain engine. -/
def State.withDrn (s : State) (x : Drn) : State := { s with drn := x }
/-- The state with another abort and release unit. -/
def State.withAru (s : State) (x : Aru) : State := { s with aru := x }
/-- The state with another management unit. -/
def State.withMgt (s : State) (x : Mgt) : State := { s with mgt := x }
/-- The state with other counters. -/
def State.withCounters (s : State) (x : Vector Counter 84) : State := { s with counters := x }
/-- The state with another buffer memory. -/
def State.withMem (s : State) (x : Memory) : State := { s with mem := x }
/-- The state with another wake mark. -/
def State.withWake (s : State) (x : Bool) : State := { s with wake := x }
/-- The state with another record of what left the part. -/
def State.withEmitted (s : State) (x : List Emission) : State := { s with emitted := x }
/-- The state with another queue of waiting commands. -/
def State.withPending (s : State) (x : List Instr) : State := { s with pending := x }

end Sys2Proof.Machine
end

