-- ==== Sys2Proof/Machine/Layout.lean ====
section
/-! DEFINITION. Usable numbers, footprints, manifest sizes and buffer demand (R2, R3, R5, R7, R10): the arithmetic every
placement and room test rests on. -/

namespace Sys2Proof.Machine

/-- The physical cell of usable number n, counted from the start of the pack (R2). -/
def physicalCell (n : Nat) : Nat := n + 1 + (n + 1) / 2047

/-- The segment of usable number n (R2, second form). -/
def seg (n : Nat) : Nat := (n + 1) / 2047

/-- The cell of usable number n within its segment (R2, second form). -/
def cellOf (n : Nat) : Nat := n + 1 - 2047 * seg n

/-- The usable number of cell c of segment k (R2). -/
def usableOf (k c : Nat) : Nat := 2047 * k + c - 1

/-- The first usable number of segment k (R2, table; R147, condition 2). -/
def firstUsable (k : Nat) : Nat := 2047 * k - 1

/-- The last usable number of segment k (R2, table). -/
def lastUsable (k : Nat) : Nat := 2047 * k + 2045

/-- The usable capacity U of a pack with limit L (R3). -/
def capacity (limit : Nat) : Nat := 2047 * limit - 1

/-- The footprint of a file of S bytes (R5): 1 + ceil(S / 512). -/
def footprintOf (size : Nat) : Nat := 1 + (size + 511) / 512

/-- The manifest size for m members (R7): 1 + ceil(m / 8). -/
def mc (m : Nat) : Nat := 1 + (m + 7) / 8

/-- The demand d(x) of the usable numbers below x (R10): max(0, seg(x - 1) - h), with `taken` = h + 1. -/
def demand (taken x : Nat) : Nat := seg (x - 1) + 1 - taken

/-- The fill of a pack, in segments, as a beacon reports it (R64). -/
def fillOf (e : Nat) : Nat := seg (e - 1) + 1

/-- The segments an extent touches (R6). -/
def segmentsOf (headN footprint : Nat) : List Nat :=
  List.range' (seg headN) (seg (headN + footprint - 1) + 1 - seg headN)

/-- Whether an extent touches segment k (R6, R147). -/
def touches (headN footprint k : Nat) : Bool :=
  seg headN ≤ k && k ≤ seg (headN + footprint - 1)

end Sys2Proof.Machine
end

