-- ==== Sys2Proof/Machine/Memory.lean ====
section
/-! DEFINITION. The segment-buffer memory (R143): reading and writing bytes, and the place of a buffer's cells in it. -/

namespace Sys2Proof.Machine

/-- What an address the memory does not list reads as: the byte the self-test leaves in a buffer (R155). -/
def Memory.unlisted : Byte := 0xAA#8

/-- The canonical form: addresses strictly rising, no listed byte equal to what an unlisted address reads as. -/
abbrev Memory.wf (m : Memory) : Prop :=
  m.Pairwise (fun x y => x.1 < y.1) ∧ ∀ c ∈ m, c.2 ≠ Memory.unlisted

/-- The byte at an address. -/
def Memory.read (m : Memory) (a : Nat) : Byte :=
  match m.find? (fun c => c.1 == a) with
  | some c => c.2
  | none => Memory.unlisted

/-- The bytes at n addresses from a on. -/
def Memory.readRange (m : Memory) (a n : Nat) : List Byte :=
  (List.range n).map fun i => m.read (a + i)

/-- The cells that bytes laid from an address on are listed as. -/
def Memory.cellsFrom : Nat → List Byte → Memory
  | _, [] => []
  | a, b :: bs =>
    if b = Memory.unlisted then Memory.cellsFrom (a + 1) bs else (a, b) :: Memory.cellsFrom (a + 1) bs

/-- The memory with bytes written from an address on. -/
def Memory.write (m : Memory) (a : Nat) (bs : List Byte) : Memory :=
  m.filter (fun c => c.1 < a) ++ Memory.cellsFrom a bs ++ m.filter (fun c => a + bs.length ≤ c.1)

/-- The memory with n addresses from a on holding what an unlisted address reads as. -/
def Memory.clear (m : Memory) (a n : Nat) : Memory := m.filter fun c => c.1 < a || a + n ≤ c.1

/-- The bytes of one segment buffer (R143). -/
def bufferBytes : Nat := 1048576

/-- The address of cell c of buffer b. -/
def cellAddr (b : Fin 64) (c : Nat) : Nat := bufferBytes * b.val + 512 * c

end Sys2Proof.Machine
end

