-- ==== Sys2Proof/Machine/Ops.lean ====
section
/-! DEFINITION. The operations every block shares: counters, the clock and timestamps, what leaves the part, the release list,
the pack slots and their room arithmetic, and the buffers. -/

namespace Sys2Proof.Machine

/-! ### Counters, wake-ups, emissions -/

/-- A counter's place in the vector of counters. -/
def Ctr.index (c : Ctr) : Fin 84 := Fin.ofNat 84 c.ctorIdx

/-- A counter's value. -/
def State.count (s : State) (c : Ctr) : Counter := s.counters[c.index]

/-- One more, saturating (Conventions, "Counters"). -/
def saturatingNext (n : Counter) : Counter := if n = BitVec.allOnes 32 then n else n + 1

/-- The state with one counter raised by one. -/
def State.bump (s : State) (c : Ctr) : State :=
  s.withCounters (s.counters.set c.index.val (saturatingNext (s.count c)) c.index.isLt)

/-- The state with one counter raised n times. -/
def State.bumpBy (s : State) (c : Ctr) : Nat → State
  | 0 => s
  | n + 1 => (s.bump c).bumpBy c n

/-- A wake-up reaches the selector (R74). -/
def State.wakeUp (s : State) : State := s.withWake true

/-- Something leaves the part. -/
def State.emit (s : State) (x : Emission) : State := s.withEmitted (s.emitted ++ [x])

/-- The start of every command: nothing has left the part and no wake-up has come yet. -/
def State.begin (s : State) : State := (s.withEmitted []).withWake false

/-! ### Time -/

/-- The clock reading, in milliseconds from START (R50); 0 while the clock does not run, when nothing reads it. -/
def State.now (s : State) : Nat := s.mgt.clock.getD 0

/-- A timestamp of this moment (Conventions, "Time"): the base time plus the whole seconds since START; free where that does not
fit the field (log entry 4). -/
def State.timestamp (s : State) : Word64 :=
  if s.mgt.config.baseTime.toNat + s.now / 1000 < 2 ^ 64 then s.mgt.config.baseTime + BitVec.ofNat 64 (s.now / 1000)
  else Config.timestampBeyondField s.mgt.config.baseTime (s.now / 1000)

/-- Whether the clock has reached a deadline, if there is one. -/
def State.due (s : State) (deadline : Option Nat) : Bool :=
  match s.mgt.clock, deadline with
  | some t, some d => d ≤ t
  | _, _ => false

/-! ### The release list -/

/-- A release record joins the list, or is refused by a full one (R187). -/
def State.queueRelease (s : State) (pair : FilePair) (reason : ReleaseReason) : State :=
  if s.aru.releases.length < 8200 then
    (s.withAru { s.aru with releases := s.aru.releases ++ [⟨pair, reason⟩] }).bump .releasesQueued
  else s.bump .releaseOverflows

/-! ### Pack slots -/

/-- The other slot. -/
def SlotId.other : SlotId → SlotId
  | .a => .b
  | .b => .a

/-- A pack slot. -/
def State.slot (s : State) : SlotId → Slot
  | .a => s.pkb.slotA
  | .b => s.pkb.slotB

/-- The state with one pack slot replaced. -/
def State.setSlot (s : State) (id : SlotId) (x : Slot) : State :=
  match id with
  | .a => s.withPkb { s.pkb with slotA := x }
  | .b => s.withPkb { s.pkb with slotB := x }

/-- Whether a slot state is accepting: FORMING, OPEN or CLOSING (section 6.1). -/
def SlotState.accepting : SlotState → Bool
  | .forming | .opened | .closing => true
  | .free | .closed | .ending | .carrying | .aborted => false

/-- Whether a slot state is one a pack can be aborted from (R177): OPEN, CLOSING, CLOSED or ENDING. -/
def SlotState.abortable : SlotState → Bool
  | .opened | .closing | .closed | .ending => true
  | .free | .forming | .carrying | .aborted => false

/-- The slot that holds the accepting pack (R99). -/
def State.accepting (s : State) : Option SlotId :=
  if s.pkb.slotA.state.accepting then some .a
  else if s.pkb.slotB.state.accepting then some .b
  else none

/-- 1 for a slot that is not FREE, 0 for one that is. -/
def SlotState.inUse : SlotState → Nat
  | .free => 0
  | .forming | .opened | .closing | .closed | .ending | .carrying | .aborted => 1

/-- How many slots are not FREE. -/
def State.slotsInUse (s : State) : Nat := s.pkb.slotA.state.inUse + s.pkb.slotB.state.inUse

/-- A pack record joins the record queue (R205). -/
def State.queueRecord (s : State) (r : PackRecord) : State :=
  s.withMgt { s.mgt with records := s.mgt.records ++ [r] }

/-- A slot returns to FREE: its fields are cleared, and the selector is woken (R98, R74). -/
def State.clearSlot (s : State) (id : SlotId) : State := (s.setSlot id {}).wakeUp

/-! ### Members -/

/-- Whether a member is VOID. -/
def MemberState.isVoid : MemberState → Bool
  | .void _ => true
  | .granted | .fetching | .done | .copying => false

/-- Whether a member is settled: DONE or VOID (section 7.1). -/
def MemberState.settled : MemberState → Bool
  | .done | .void _ => true
  | .granted | .fetching | .copying => false

/-- The state with one member record changed. -/
def State.modMember (s : State) (r : MemberRef) (f : Member → Member) : State :=
  s.setSlot r.slot { s.slot r.slot with members := (s.slot r.slot).members.modify r.index f }

/-- A member record, if the reference names one. -/
def State.member? (s : State) (r : MemberRef) : Option Member := (s.slot r.slot).members[r.index]?

/-- The member of a pair that is not VOID, in a slot that is not FREE (R42, R106, R112). -/
def State.liveMember (s : State) (p : FilePair) : Option MemberRef :=
  let inSlot (id : SlotId) : Option MemberRef :=
    if (s.slot id).state = .free then none
    else ((s.slot id).members.findIdx? fun m => m.file.pair = p && !m.state.isVoid).map (⟨id, ·⟩)
  (inSlot .a).or (inSlot .b)

/-- Whether a pair is a member, in any state, of a slot that is not FREE (R82, R106). -/
def State.isMember (s : State) (p : FilePair) : Bool :=
  let inSlot (id : SlotId) : Bool :=
    (s.slot id).state ≠ .free && (s.slot id).members.any fun m => m.file.pair = p
  inSlot .a || inSlot .b

/-! ### Room -/

/-- The quantities a room or buffer test works on (R8, R10). -/
structure Room where
  e     : Nat
  m     : Nat
  k     : Nat
  q     : Nat
  u     : Nat
  taken : Nat
deriving DecidableEq, Repr

/-- The pending claims bound to a slot (R73). -/
def State.boundClaims (s : State) (id : SlotId) : List Claim :=
  s.sel.claims.filter fun c => c.slot = some id

/-- The quantities of a slot, with k and Q read from the pending claim table (R8, R98). -/
def State.roomOf (s : State) (id : SlotId) : Room where
  e := (s.slot id).e
  m := (s.slot id).members.length
  k := (s.boundClaims id).length
  q := ((s.boundClaims id).map fun c => footprintOf c.file.size).sum
  u := capacity (s.slot id).limit
  taken := (s.slot id).taken

/-- The quantities of a pack about to form (R76, R182). -/
def State.emptyRoom (s : State) : Room where
  e := 0
  m := 0
  k := 0
  q := 0
  u := capacity s.mgt.config.packLimit
  taken := 0

/-- The committed extent C (R8). -/
def Room.committed (r : Room) : Nat := r.e + r.q + mc (r.m + r.k)

/-- The room test for a footprint (R8). -/
def Room.fits (r : Room) (f : Nat) : Bool :=
  r.e + r.q + f + mc (r.m + r.k + 1) ≤ r.u && r.m + r.k + 1 ≤ 4096

/-- The demand with one more footprint (R10). -/
def Room.demandWith (r : Room) (f : Nat) : Nat := demand r.taken (r.e + r.q + f + mc (r.m + r.k + 1))

/-- The promised count that these quantities call for (R10, R104). -/
def Room.promised (r : Room) : Nat := demand r.taken r.committed

/-- The pack builder recomputes the promised count and hands it to the pool (R104). -/
def State.recomputePromised (s : State) : State :=
  s.withSpl { s.spl with promised := match s.accepting with
    | some id => (s.roomOf id).promised
    | none => 0 }

/-- Whether a pack can form (R101). -/
def State.canForm (s : State) : Bool :=
  (s.pkb.slotA.state = .free || s.pkb.slotB.state = .free) && s.accepting.isNone
    && s.mgt.records.length + s.slotsInUse < 32 && s.pkb.nextSeq ≠ BitVec.allOnes 32

/-- The slot a pack forms in: A when both are FREE, else the FREE one (R101). -/
def State.formingSlot (s : State) : SlotId := if s.pkb.slotA.state = .free then .a else .b

/-! ### Buffers -/

/-- A buffer. -/
def State.buffer (s : State) (i : Fin 64) : Buffer := s.spl.buffers[i]

/-- The state with one buffer replaced. A RETIRED buffer keeps its state until hard reset (R153). -/
def State.setBuffer (s : State) (i : Fin 64) (x : Buffer) : State :=
  if (s.buffer i).state = .retired then s
  else s.withSpl { s.spl with buffers := s.spl.buffers.set i.val x i.isLt }

/-- How many buffers are in a state (R143). -/
def State.bufferCount (s : State) (st : BufferState) : Nat :=
  s.spl.buffers.toList.countP fun x => x.state = st

/-- The number of buffers in service (R143). -/
def State.inService (s : State) : Nat := 64 - s.bufferCount .retired

/-- The buffer bound to a segment of a slot (R143). -/
def State.bufferOf (s : State) (id : SlotId) (k : Nat) : Option (Fin 64) :=
  (List.finRange 64).find? fun i => (s.buffer i).bound = some (id, k)

/-- A buffer becomes FREE and unbound, and the selector is woken (R145). -/
def State.freeBuffer (s : State) (i : Fin 64) : State :=
  (s.setBuffer i ⟨.free, none⟩).wakeUp

/-- The pool takes its lowest-numbered FREE buffer for a segment (R144). -/
def State.takeBuffer (s : State) (id : SlotId) (k : Nat) : State :=
  match (List.finRange 64).find? fun i => (s.buffer i).state = .free with
  | some i => s.setBuffer i ⟨.filling, some (id, k)⟩
  | none => s

/-- Buffers are taken for the segments from `lo` on, n of them, in increasing order (R144). -/
def State.takeBuffers (s : State) (id : SlotId) (lo n : Nat) : State :=
  (List.range' lo n).foldl (fun s k => s.takeBuffer id k) s

/-- The slot takes what it needs to hold buffers for every segment up to seg(y - 1) (R10, R105, R115). -/
def State.holdThrough (s : State) (id : SlotId) (y : Nat) : State :=
  let need := seg (y - 1) + 1
  let lo := (s.slot id).taken
  let s := s.takeBuffers id lo (need - lo)
  s.setSlot id { s.slot id with taken := max lo need }

/-- The address of byte x of the file data of a member, in the buffer its slot holds for that segment (R2, R130). -/
def State.fileByteAddr (s : State) (id : SlotId) (headN x : Nat) : Option Nat :=
  let n := headN + 1 + x / 512
  (s.bufferOf id (seg n)).map fun b => cellAddr b (cellOf n) + x % 512

/-- File bytes are written from a file offset on, each at its own address (R130). -/
def State.writeFile (s : State) (id : SlotId) (headN off : Nat) (bs : List Byte) : State :=
  s.withMem ((bs.zipIdx off).foldl (fun m bx =>
    match s.fileByteAddr id headN bx.2 with
    | some a => m.write a [bx.1]
    | none => m) s.mem)

/-- The whole cell at a usable number of a slot is written (R2). -/
def State.writeCell (s : State) (id : SlotId) (n : Nat) (bs : List Byte) : State :=
  match s.bufferOf id (seg n) with
  | some b => s.withMem (s.mem.write (cellAddr b (cellOf n)) bs)
  | none => s

/-- The 512 bytes of the cell at a usable number of a slot. -/
def State.readCell (s : State) (id : SlotId) (n : Nat) : List Byte :=
  match s.bufferOf id (seg n) with
  | some b => s.mem.readRange (cellAddr b (cellOf n)) 512
  | none => []

end Sys2Proof.Machine
end

