-- ==== Sys2Proof/Machine/PeerView.lean ====
section
/-! DEFINITION. PVW (chapter 4): the beacon table and its liveness, this station's beacon items and timer, the yield check. -/

namespace Sys2Proof.Machine

/-! ### The beacon table -/

/-- Whether an entry is live: heard less than three beacon intervals ago (R60). Nothing is live while the clock does not run. -/
def State.isLive (s : State) (x : PeerEntry) : Bool :=
  match s.mgt.clock, x.lastHeard with
  | some t, some h => t - h < 3 * s.mgt.config.beaconSecs * 1000
  | _, _ => false

/-- Whether a phase is one in which an entry holds its key (R62). -/
def PackPhase.holding : PackPhase → Bool
  | .opened | .closing => true
  | .closed | .aborted => false

/-- The key an entry holds (R62). -/
def State.heldKey (s : State) (x : PeerEntry) : Option Word64 :=
  if s.isLive x && x.phase.holding then some x.key else none

/-- Whether a key is held by another station (R62). -/
def State.heldElsewhere (s : State) (key : Word64) : Bool :=
  s.pvw.table.any fun x => s.heldKey x = some key

/-- The entry of a station (R58). -/
def State.peer? (s : State) (st : Station) : Option PeerEntry :=
  s.pvw.table.find? fun x => x.station = st

/-- The table with one station's entry written whole, kept by rising station number (R58, R59). -/
def writePeer (x : PeerEntry) (table : List PeerEntry) : List PeerEntry :=
  table.filter (fun y => y.station < x.station) ++ [x] ++ table.filter (fun y => x.station < y.station)

/-- The sweep: stale entries leave and are counted, and the selector is told if one of them was OPEN or CLOSING (R61). -/
def State.sweepPeers (s : State) : State :=
  let stale := s.pvw.table.filter fun x => !s.isLive x
  let s := s.withPvw { s.pvw with table := s.pvw.table.filter s.isLive }
  let s := s.bumpBy .peerEntriesExpired stale.length
  if stale.any fun x => x.phase.holding then s.wakeUp else s

/-! ### Own beacons -/

/-- An item joins the beacon list, or remakes its slot's waiting item in its place (R63). -/
def putItem (x : BeaconItem) (items : List BeaconItem) : List BeaconItem :=
  if items.any fun y => y.slot = x.slot then items.map fun y => if y.slot = x.slot then x else y
  else items ++ [x]

/-- The item a trigger makes from a slot as it stands (R63, R64). -/
def State.beaconItem (s : State) (id : SlotId) (phase : PackPhase) : BeaconItem where
  slot := id
  epoch := s.mgt.config.epoch
  seq := (s.slot id).seq
  phase := phase
  key := (s.slot id).primaryKey.getD 0
  fill := fillOf (s.slot id).e
  members := (s.slot id).members.length

/-- A beacon trigger for a slot: made in RUN and QUIESCING only (R64, R66). An item in state OPEN or CLOSING describes the accepting
pack, and while such an item waits the beacon timer is stopped (R65): making one stops it, but where its expiry is due at this very reading. The
expiry then comes behind the trigger and remakes the item from the slot as it stands by then (log entry 30). -/
def State.triggerBeacon (s : State) (id : SlotId) (phase : PackPhase) : State :=
  if s.mgt.run = .run ∨ s.mgt.run = .quiescing then
    s.withPvw
      { s.pvw with
        items := putItem (s.beaconItem id phase) s.pvw.items
        timer := if phase.holding then s.pvw.timer.filter (· ≤ s.now) else s.pvw.timer }
  else s

/-- A trigger for the accepting pack with its own state, if it is OPEN or CLOSING (R63, R65). -/
def State.triggerAccepting (s : State) : State :=
  match s.accepting with
  | some id =>
    match (s.slot id).state with
    | .opened => s.triggerBeacon id .opened
    | .closing => s.triggerBeacon id .closing
    | .free | .forming | .closed | .ending | .carrying | .aborted => s
  | none => s

/-- The beacon timer stops (R65). -/
def State.stopBeaconTimer (s : State) : State := s.withPvw { s.pvw with timer := none }

/-- Entry to CONFIG, QUIET or HALTED: the beacon list is emptied and the timer stops (R66). -/
def State.silenceBeacons (s : State) : State := s.withPvw { s.pvw with items := [], timer := none }

/-- What follows the arbiter's taking of a beacon item (R63): the timer restarts if it described the accepting pack OPEN or
CLOSING; a trigger for the accepting pack follows if it described another pack. -/
def State.beaconTaken (s : State) (x : BeaconItem) : State :=
  match s.accepting with
  | some id =>
    if x.slot = id ∧ x.seq = (s.slot id).seq then
      if x.phase.holding then s.withPvw { s.pvw with timer := some (s.now + s.mgt.config.beaconSecs * 1000) } else s
    else s.triggerAccepting
  | none => s

/-! ### The yield check -/

/-- Whether an entry calls for a pack with this key and fill to yield (R67). -/
def State.callsForYield (s : State) (key : Word64) (fill : Nat) (x : PeerEntry) : Bool :=
  x.key = key && (fill < x.fill || (fill = x.fill && x.station < s.lif.station))

end Sys2Proof.Machine
end

