-- ==== Sys2Proof/Machine/Bytes.lean ====
section
/-! DEFINITION. Byte order (Conventions, R13, R24): every multi-byte field is little-endian. -/

namespace Sys2Proof.Machine

/-- The k bytes of a number, least significant first. -/
def le : Nat → Nat → List Byte
  | 0, _ => []
  | k + 1, n => BitVec.ofNat 8 n :: le k (n / 256)

/-- The number that bytes spell, least significant first. -/
def ofLe : List Byte → Nat
  | [] => 0
  | b :: bs => b.toNat + 256 * ofLe bs

/-- The field of `len` bytes at an offset of a body, as a number. -/
def fieldAt (body : List Byte) (off len : Nat) : Nat := ofLe ((body.drop off).take len)

/-- The byte a flag is written as. -/
def flagByte (f : Bool) : Byte := if f then 1 else 0

/-- Bytes followed by zeros up to a length (R13: a byte no field covers is zero). -/
def padTo (n : Nat) (bs : List Byte) : List Byte := bs ++ List.replicate (n - bs.length) 0

end Sys2Proof.Machine
end

