-- ==== Sys2Proof/Machine/Crc.lean ====
section
/-! DEFINITION. The one check value of the part (R11): the reflected CRC-32 with reflected form 0xEDB88320, initial value all
ones, final value inverted. -/

namespace Sys2Proof.Machine

/-- One shift of the register. -/
def crcShift (r : Word32) : Word32 :=
  if r.getLsbD 0 then (r >>> 1) ^^^ 0xEDB88320#32 else r >>> 1

/-- One byte run through the register, least significant bit first. -/
def crcByte (r : Word32) (b : Byte) : Word32 :=
  crcShift (crcShift (crcShift (crcShift (crcShift (crcShift (crcShift (crcShift (r ^^^ b.setWidth 32))))))))

/-- Bytes run through the register in order (the running CRC of R124 and R130). -/
def crcRun (r : Word32) (bs : List Byte) : Word32 := bs.foldl crcByte r

/-- The register before any byte. -/
def crcInit : Word32 := 0xFFFFFFFF#32

/-- The check value of a register: its inversion. -/
def crcFinal (r : Word32) : Word32 := ~~~r

/-- The check value of bytes. -/
def crc32 (bs : List Byte) : Word32 := crcFinal (crcRun crcInit bs)

end Sys2Proof.Machine
end

