-- ==== Sys2Proof/Machine/Cells.lean ====
section
/-! DEFINITION. The layouts of the cells the part writes itself (R13-R19): pack head, member head, segment tail, manifest head
and manifest entry cells, and the fill pattern (R12). -/

namespace Sys2Proof.Machine

/-- Field bytes padded to byte 507, then the cell check (R11, R13). -/
def checkedCell (fields : List Byte) : List Byte :=
  padTo 508 fields ++ le 4 (crc32 (padTo 508 fields)).toNat

/-- The state byte of a member head or manifest entry (R15, R19): 1 DONE, 2 VOID. A member is DONE or VOID whenever one of these
is committed; the head a copy writes carries the state the completion gives (log entry 8). -/
def memberStateByte : MemberState → Byte
  | .void _ => 2
  | .granted | .fetching | .done | .copying => 1

/-- The void-reason byte (R15): 0 none, 1 CHECKSUM, 2 FETCH, 3 WITHDRAWN. -/
def voidReasonByte : MemberState → Byte
  | .void .checksum => 1
  | .void .fetch => 2
  | .void .withdrawn => 3
  | .granted | .fetching | .done | .copying => 0

/-- The pack head, "GPK1" (R14). -/
def packHeadCell (station : Station) (epoch seq : Word32) (limit : Nat) (key openTime : Word64) : List Byte :=
  checkedCell ([0x47#8, 0x50#8, 0x4B#8, 0x31#8] ++ le 2 1 ++ le 1 station.val ++ le 2 limit ++ le 4 epoch.toNat
    ++ le 4 seq.toNat ++ le 8 key.toNat ++ le 8 openTime.toNat)

/-- A member head, "GMH1" (R15), of the member with this index. -/
def memberHeadCell (index : Nat) (m : Member) : List Byte :=
  checkedCell ([0x47#8, 0x4D#8, 0x48#8, 0x31#8] ++ [memberStateByte m.state, voidReasonByte m.state, flagByte m.carried]
    ++ le 1 m.file.pair.source.val ++ le 1 m.file.cls ++ le 4 m.file.pair.ticket.toNat ++ le 8 m.file.tag.toNat
    ++ le 4 m.file.size ++ le 4 m.file.crc.toNat ++ le 1 m.file.name.length ++ padTo 200 m.file.name ++ le 2 index)

/-- A segment tail, "GST1" (R17, R150). -/
def tailCell (epoch seq : Word32) (number heads : Nat) (dataCrc : Word32) (last : Bool) : List Byte :=
  checkedCell ([0x47#8, 0x53#8, 0x54#8, 0x31#8] ++ le 4 epoch.toNat ++ le 4 seq.toNat ++ le 4 number ++ le 2 heads
    ++ le 4 dataCrc.toNat ++ [flagByte last])

/-- Whether a manifest entry records VOID. -/
def ManifestEntry.isVoid (x : ManifestEntry) : Bool :=
  match x.state with
  | .void _ => true
  | .granted | .fetching | .done | .copying => false

/-- The manifest head, "GMF1" (R18). -/
def manifestHeadCell (epoch seq : Word32) (key : Word64) (mf : Manifest) : List Byte :=
  checkedCell ([0x47#8, 0x4D#8, 0x46#8, 0x31#8] ++ le 4 epoch.toNat ++ le 4 seq.toNat ++ le 2 mf.entries.length
    ++ le 2 (mf.entries.countP ManifestEntry.isVoid) ++ le 2 (mf.entries.countP ManifestEntry.carried)
    ++ le 8 key.toNat ++ le 8 mf.closeTime.toNat ++ le 4 mf.packLength ++ le 4 (mf.headN + 1))

/-- One manifest entry, 64 bytes (R19). -/
def manifestEntryBytes (x : ManifestEntry) : List Byte :=
  padTo 64 (le 4 x.file.pair.ticket.toNat ++ le 1 x.file.pair.source.val ++ [memberStateByte x.state, voidReasonByte x.state,
    flagByte x.carried, flagByte x.dataPresent] ++ le 1 x.file.cls ++ le 4 x.headN ++ le 4 x.file.size
    ++ le 4 x.file.crc.toNat ++ le 8 x.file.tag.toNat)

/-- Manifest entry cell c: entries 8c to 8c + 7, the slots past the last entry zero (R7, R19). -/
def manifestEntryCell (entries : List ManifestEntry) (c : Nat) : List Byte :=
  padTo 512 (((entries.drop (8 * c)).take 8).flatMap manifestEntryBytes)

/-- Cell j of a manifest: its head, then its entry cells (R7). -/
def manifestCell (epoch seq : Word32) (key : Word64) (mf : Manifest) : Nat → List Byte
  | 0 => manifestHeadCell epoch seq key mf
  | c + 1 => manifestEntryCell mf.entries c

/-- The fill pattern over n cells (R12). -/
def fillPattern (n : Nat) : List Byte := List.replicate (512 * n) 0xA5#8

end Sys2Proof.Machine
end

