-- ==== Sys2Proof/Machine/Pool.lean ====
section
/-! DEFINITION. SPL (chapter 8): the commit of a segment, its hand-over to the drain queue, and the buffers' part in an abort. -/

namespace Sys2Proof.Machine

/-! ### Commit -/

/-- The data cells of a member within segment k take the fill pattern (R12, R149). -/
def fillMemberData (b : Fin 64) (k : Nat) (m : Member) (mem : Memory) : Memory :=
  let lo := max (m.headN + 1) (firstUsable k)
  let hi := min (m.headN + m.footprint - 1) (lastUsable k)
  if lo ≤ hi then mem.write (cellAddr b (cellOf lo)) (fillPattern (hi + 1 - lo)) else mem

/-- The record of a member after the commit of segment k: the commit of its head segment sets data present (R20, R149). -/
def Member.afterCommit (k : Nat) (m : Member) : Member :=
  if seg m.headN = k then { m with dataPresent := decide (m.state = .done) } else m

/-- Step 1 of a commit for one extent, from the record as the commit leaves it: the head, if it lies in k, and the fill
of a member whose written form is VOID (R149). -/
def commitExtent (b : Fin 64) (k index : Nat) (m : Member) (mem : Memory) : Memory :=
  let mem := if seg m.headN = k then mem.write (cellAddr b (cellOf m.headN)) (memberHeadCell index m) else mem
  if touches m.headN m.footprint k && !m.dataPresent then fillMemberData b k m mem else mem

/-- Whether segment k is the pack's last: the manifest is placed and ends in k (R150). -/
def Slot.isLastSegment (x : Slot) (k : Nat) : Bool :=
  match x.manifest with
  | some mf => k + 1 = mf.packLength
  | none => false

/-- Steps 3 and 4 of a commit: the manifest cells that lie in k, and the fill after the manifest (R149). -/
def commitManifest (b : Fin 64) (epoch : Word32) (x : Slot) (k : Nat) (mem : Memory) : Memory :=
  match x.manifest with
  | none => mem
  | some mf =>
    let size := mc mf.entries.length
    let mem := (List.range size).foldl (fun mem j =>
      if seg (mf.headN + j) = k then
        mem.write (cellAddr b (cellOf (mf.headN + j))) (manifestCell epoch x.seq (x.primaryKey.getD 0) mf j)
      else mem) mem
    if x.isLastSegment k && mf.headN + size ≤ lastUsable k then
      mem.write (cellAddr b (cellOf (mf.headN + size))) (fillPattern (lastUsable k + 1 - (mf.headN + size)))
    else mem

/-- The buffer contents a commit of segment k leaves (R149, R150), from the slot with its records as the commit leaves them. -/
def commitContents (station : Station) (epoch : Word32) (x : Slot) (b : Fin 64) (k : Nat) (mem : Memory) : Memory :=
  let mem := x.members.zipIdx.foldl (fun mem mi => commitExtent b k mi.2 mi.1 mem) mem
  let mem := if k = 0 then
      mem.write (cellAddr b 0) (packHeadCell station epoch x.seq x.limit (x.primaryKey.getD 0) (x.openTime.getD 0))
    else mem
  let mem := commitManifest b epoch x k mem
  let heads := x.members.countP fun m => seg m.headN = k
  let dataCrc := crc32 (mem.readRange (cellAddr b 0) (512 * 2047))
  mem.write (cellAddr b 2047) (tailCell epoch x.seq k heads dataCrc (x.isLastSegment k))

/-- A segment joins the drain queue: behind its own pack and every pack with a lower sequence, ahead of a higher one (R163). -/
def queueSegment (x : DrainEntry) (queue : List DrainEntry) : List DrainEntry :=
  queue.filter (fun y => y.seq.toNat ≤ x.seq.toNat) ++ [x] ++ queue.filter (fun y => x.seq.toNat < y.seq.toNat)

/-- The commit of segment k of a slot, in buffer b (R149-R151). -/
def State.commitSegment (s : State) (id : SlotId) (k : Nat) (b : Fin 64) : State :=
  let x := s.slot id
  let x := { x with members := x.members.map (Member.afterCommit k), commitPoint := some (k + 1) }
  let s := s.withMem (commitContents s.lif.station s.mgt.config.epoch x b k s.mem)
  let s := (s.setSlot id x).setBuffer b ⟨.ready, some (id, k)⟩
  let s := s.bump .segmentsCommitted
  s.withDrn { s.drn with queue := queueSegment ⟨id, x.seq, k, b⟩ s.drn.queue }

/-- Whether a slot state commits segments: OPEN, CLOSING and CLOSED (R147). -/
def SlotState.commits : SlotState → Bool
  | .opened | .closing | .closed => true
  | .free | .forming | .ending | .carrying | .aborted => false

/-- Whether segment k of a slot meets conditions 2 and 3 of R147: every extent touching it is final, and it lies below E or within
the placed manifest. -/
def Slot.segmentReady (x : Slot) (k : Nat) : Bool :=
  x.members.all (fun m => !touches m.headN m.footprint k || m.state.settled) &&
    (2047 * k + 2046 ≤ x.e || match x.manifest with
      | some mf => k < mf.packLength
      | none => false)

/-- The segment of a slot that is committable, with its buffer (R147): the one at the commit point, if it is. -/
def State.committable (s : State) (id : SlotId) : Option (Nat × Fin 64) :=
  match (s.slot id).commitPoint with
  | some k =>
    if (s.slot id).state.commits && (s.slot id).segmentReady k then
      match s.bufferOf id k with
      | some b => some (k, b)
      | none => none
    else none
  | none => none

/-- A run of consecutive commits of a slot, at most n of them (R148). -/
def State.commitRun (s : State) (id : SlotId) : Nat → State
  | 0 => s
  | n + 1 =>
    match s.committable id with
    | some (k, b) => (s.commitSegment id k b).commitRun id n
    | none => s

/-- The commit test of a slot at a testing event (R148). A pack holds at most 64 buffers, so at most 64 segments commit in one run. -/
def State.testCommit (s : State) (id : SlotId) : State := s.commitRun id 64

/-! ### Aborts -/

/-- Whether a buffer is bound to a slot and in FILLING, READY or DRAINING (R152, R180). -/
def State.heldByPack (s : State) (id : SlotId) (i : Fin 64) : Bool :=
  match (s.buffer i).bound with
  | some (x, _) => x = id && ((s.buffer i).state = .filling || (s.buffer i).state = .ready || (s.buffer i).state = .draining)
  | none => false

/-- Whether the segment a buffer is bound to is touched by one of these members (R182, R183). -/
def State.bufferTouched (s : State) (i : Fin 64) (ms : List Member) : Bool :=
  match (s.buffer i).bound with
  | some (_, k) => ms.any fun m => touches m.headN m.footprint k
  | none => false

/-- Every buffer of an aborted pack that none of these members touches becomes FREE (R182, step 1). -/
def State.freeUntouched (s : State) (id : SlotId) (ms : List Member) : State :=
  (List.finRange 64).foldl (fun s i =>
    if s.heldByPack id i && !s.bufferTouched i ms then s.freeBuffer i else s) s

/-- Every remaining buffer of an aborted pack becomes HELD when one of these members touches it, else FREE (R152, R183). -/
def State.holdOrFree (s : State) (id : SlotId) (ms : List Member) : State :=
  (List.finRange 64).foldl (fun s i =>
    if s.heldByPack id i then
      if s.bufferTouched i ms then s.setBuffer i ⟨.held, (s.buffer i).bound⟩ else s.freeBuffer i
    else s) s

/-- The number of copies in the queue whose source extent touches a HELD buffer (R183). -/
def State.copyCount (s : State) (i : Fin 64) : Nat :=
  match (s.buffer i).bound with
  | some (id, k) => s.aru.copies.countP fun c => c.source = id && touches c.sourceHead c.footprint k
  | none => 0

/-- Every HELD buffer whose copy count is 0 becomes FREE (R152, R184). -/
def State.freeIdleHeld (s : State) : State :=
  (List.finRange 64).foldl (fun s i =>
    if (s.buffer i).state = .held && s.copyCount i = 0 then s.freeBuffer i else s) s

/-- RESTART and entry to HALTED: every buffer not RETIRED becomes FREE and unbound, and the promised count 0 (R158). -/
def State.freeAllBuffers (s : State) : State :=
  let s := (List.finRange 64).foldl (fun s i =>
    if (s.buffer i).state = .retired then s else s.freeBuffer i) s
  s.withSpl { s.spl with promised := 0 }

end Sys2Proof.Machine
end

