-- ==== Sys2Proof/Machine/Builder.lean ====
section
/-! DEFINITION. PKB (chapter 6), with the fetch engine's taking of queued members (R125) that a placement sets off: forming, placing,
opening, closing, the manifest, and ending. -/

namespace Sys2Proof.Machine

/-! ### The fetch order queue -/

/-- The lowest-numbered FREE fetch slot among those configured (R124, R125). -/
def State.freeFetchSlot (s : State) : Option (Fin 4) :=
  (List.finRange 4).find? fun i => i.val < s.mgt.config.fetchSlots && s.fen.slots[i].isNone

/-- The state with one fetch slot's contents replaced. -/
def State.setFetch (s : State) (i : Fin 4) (x : Option Fetch) : State :=
  s.withFen { s.fen with slots := s.fen.slots.set i.val x i.isLt }

/-- A fetch slot takes a member, which becomes FETCHING; its FETCH item joins the FETCH list (R125). -/
def State.takeFetch (s : State) (i : Fin 4) (r : MemberRef) (m : Member) : State :=
  let s := s.modMember r fun m => { m with state := .fetching }
  let s := s.setFetch i (some
    { member := r, pair := m.file.pair, size := m.file.size, crc := m.file.crc, headN := m.headN,
      phase := .waiting, received := 0, running := crcInit })
  s.withFen { s.fen with items := s.fen.items ++ [i] }

/-- FREE fetch slots take members from the front of the queue, at most n of them (R125). -/
def State.takeFetchesN (s : State) : Nat → State
  | 0 => s
  | n + 1 =>
    match s.freeFetchSlot, s.fen.queue with
    | some i, r :: rest =>
      let s := s.withFen { s.fen with queue := rest }
      match s.member? r with
      | some m => (s.takeFetch i r m).takeFetchesN n
      | none => s.takeFetchesN n
    | _, _ => s

/-- FREE fetch slots take members while there are both (R125). There are at most four slots. -/
def State.takeFetches (s : State) : State := s.takeFetchesN 4

/-- A member joins the end of the fetch order queue, and a FREE slot takes the front one (R123, R125). -/
def State.queueFetch (s : State) (r : MemberRef) : State :=
  (s.withFen { s.fen with queue := s.fen.queue ++ [r] }).takeFetches

/-! ### Closing -/

/-- Whether a slot meets the close condition (R111): no claim is bound to it and every member is settled. -/
def State.closeReady (s : State) (id : SlotId) : Bool :=
  (s.boundClaims id).isEmpty && (s.slot id).members.all fun m => m.state.settled

/-- What the manifest records of a member at entry to CLOSED (R19, R21). A DONE member's data cells hold the file's bytes in the
written pack, whether or not its head segment has committed yet (log entry 3). -/
def Member.manifestEntry (m : Member) : ManifestEntry :=
  ⟨m.file, m.state, m.carried, m.dataPresent || decide (m.state = .done), m.headN⟩

/-- The manifest of a slot, with the close time and pack length of this moment (R4, R18, R115). -/
def State.manifestOf (s : State) (id : SlotId) : Manifest where
  headN := (s.slot id).e
  entries := (s.slot id).members.map Member.manifestEntry
  closeTime := s.timestamp
  packLength := seg ((s.slot id).e + mc (s.slot id).members.length - 1) + 1

/-- Entry to CLOSED: the manifest is placed, its buffers are taken, and the last segments commit (R115). -/
def State.enterClosed (s : State) (id : SlotId) : State :=
  let mf := s.manifestOf id
  let s := s.holdThrough id (mf.headN + mc mf.entries.length)
  let s := s.setSlot id { s.slot id with state := .closed, manifest := some mf }
  let s := (s.triggerBeacon id .closed).stopBeaconTimer
  let s := s.recomputePromised.wakeUp
  s.testCommit id

/-- The close test of a slot (R111): a CLOSING slot that meets the condition goes to CLOSED. -/
def State.testClose (s : State) (id : SlotId) : State :=
  if (s.slot id).state = .closing && s.closeReady id then s.enterClosed id else s

/-- The causes that close an OPEN pack (R108-R110). -/
inductive CloseCause where
  | room | memberLimit | age | command | quiesce | yield
deriving DecidableEq, Repr

/-- The counter of a close cause (R120). -/
def CloseCause.counter : CloseCause → Ctr
  | .room => .closesByRoom
  | .memberLimit => .closesByMemberLimit
  | .age => .closesByAge
  | .command => .closesByCommand
  | .quiesce => .closesByQuiesce
  | .yield => .closesByYield

/-- A close trigger taken by a slot: an OPEN pack goes to CLOSING for this cause and its close condition is tested; any other
slot is left as it is (R108-R111). -/
def State.closeFor (s : State) (id : SlotId) (cause : CloseCause) : State :=
  if (s.slot id).state = .opened then
    let s := s.setSlot id { s.slot id with state := .closing, ageDeadline := none }
    let s := (s.triggerBeacon id .closing).bump cause.counter
    s.testClose id
  else s

/-- A close trigger taken by the accepting pack, if there is one (R110). -/
def State.closeAccepting (s : State) (cause : CloseCause) : State :=
  match s.accepting with
  | some id => s.closeFor id cause
  | none => s

/-- A yield check calls for a yield (R69): it is counted, and the accepting pack is asked to close. -/
def State.yieldNow (s : State) : State := (s.bump .yields).closeAccepting .yield

/-- The yield check of an OPEN pack against these entries (R67, R68): it yields once if any of them calls for it. -/
def State.yieldCheck (s : State) (id : SlotId) (entries : List PeerEntry) : State :=
  match (s.slot id).state, (s.slot id).primaryKey with
  | .opened, some key =>
    if entries.any (s.callsForYield key (fillOf (s.slot id).e)) then s.yieldNow else s
  | _, _ => s

/-- The room margin test of an OPEN pack (R108): it closes when the remaining room U - C is below the close margin. -/
def State.testMargin (s : State) (id : SlotId) : State :=
  if (s.roomOf id).u < (s.roomOf id).committed + s.mgt.config.closeMargin then s.closeFor id .room else s

/-- The member limit test of an OPEN pack (R109). -/
def State.testMemberLimit (s : State) (id : SlotId) : State :=
  if (s.slot id).members.length = 4096 then s.closeFor id .memberLimit else s

/-! ### Forming, admission and the end of claims -/

/-- A pack forms in a FREE slot, and only where a pack can form (R99, R101, R102). A slot formed for a carry has no tentative key. -/
def State.formSlot (s : State) (id : SlotId) (tentative : Option Word64) : State :=
  if s.canForm ∧ (s.slot id).state = .free then
    s.setSlot id
      { state := .forming, seq := s.pkb.nextSeq, tentativeKey := tentative, limit := s.mgt.config.packLimit,
        commitPoint := some 0 }
  else s

/-- A FORMING slot with nothing placed returns to FREE (R102). -/
def State.abandonForm (s : State) (id : SlotId) : State := (s.clearSlot id).bump .formsAbandoned

/-- The pack builder is told that a claim has been admitted to a slot (R79, R103): the promised count is recomputed, and an OPEN
pack's margin is tested. -/
def State.claimAdmitted (s : State) (id : SlotId) : State :=
  (s.recomputePromised).testMargin id

/-- The pack builder is told that a claim bound to a slot has ended without placement (R91, R103). -/
def State.claimEnded (s : State) (id : SlotId) : State :=
  let s := if (s.slot id).state = .forming && (s.boundClaims id).isEmpty && (s.slot id).members.isEmpty
    then s.abandonForm id else s
  (s.recomputePromised).testClose id

/-! ### Placement -/

/-- The first placement in a FORMING slot opens the pack (R107): sequence, primary key, open time and age deadline are fixed; in
QUIESCING it goes on to CLOSING, else the yield check at OPEN follows (R68). N never passes 4,294,967,295 (R100). -/
def State.openPack (s : State) (id : SlotId) (key : Word64) : State :=
  let x := s.slot id
  let s := s.setSlot id
    { x with
      state := .opened, seq := s.pkb.nextSeq, tentativeKey := none, primaryKey := some (x.tentativeKey.getD key),
      openTime := some s.timestamp, openClock := some s.now,
      ageDeadline := some (s.now + s.mgt.config.packAgeLimit * 1000) }
  let s := s.withPkb { s.pkb with nextSeq := saturatingNext s.pkb.nextSeq }
  let s := (s.triggerBeacon id .opened).bump .packsOpened
  if s.mgt.run = .quiescing then s.closeFor id .quiesce
  else s.yieldCheck id (s.pvw.table.filter fun x => s.isLive x && x.phase = .opened)

/-- The record of a member at placement (R106). -/
def newMember (file : FileInfo) (key : Word64) (headN : Nat) (carried : Bool) : Member where
  file := file
  key := key
  headN := headN
  footprint := footprintOf file.size
  state := if carried then .copying else if file.size = 0 then .done else .granted
  carried := carried
  released := false
  dataPresent := false

/-- A member is placed in a slot (R105, steps 2 to 7, then the opening and the close and commit tests). The entry of a granted
claim has left the pending table before. -/
def State.place (s : State) (id : SlotId) (file : FileInfo) (key : Word64) (carried : Bool) : State :=
  let x := s.slot id
  let e := x.e + footprintOf file.size
  let s := s.setSlot id { x with e := e, members := x.members ++ [newMember file key x.e carried] }
  let s := s.holdThrough id e
  let s := if !carried && file.size ≠ 0 then s.queueFetch ⟨id, x.members.length⟩ else s
  let s := if (s.slot id).state = .forming then s.openPack id key else s
  let s := s.recomputePromised
  let s := (s.testMargin id).testMemberLimit id
  let s := s.testClose id
  (s.testCommit id).wakeUp

/-- A member has settled (R122): the pack builder tests the close condition and the pool the commit condition. -/
def State.memberSettled (s : State) (id : SlotId) : State := (s.testClose id).testCommit id

/-! ### Ending -/

/-- The record of an ended pack (R117). -/
def State.endedRecord (s : State) (id : SlotId) : PackRecord :=
  let x := s.slot id
  { station := s.lif.station, epoch := s.mgt.config.epoch, seq := x.seq, outcome := .ended,
    segments := match x.manifest with
      | some mf => mf.packLength
      | none => 0
    members := x.members.length, voids := x.members.countP fun m => m.state.isVoid, carriedOut := 0,
    released := x.members.countP fun m => m.released, key := x.primaryKey.getD 0, openTime := x.openTime.getD 0,
    closeTime := match x.manifest with
      | some mf => mf.closeTime
      | none => 0 }

/-- STORED(END) reaches the pack builder (R116, R117): an ENDING slot's record is queued and the slot becomes FREE. -/
def State.endPack (s : State) (id : SlotId) : State :=
  if (s.slot id).state = .ending then
    ((s.queueRecord (s.endedRecord id)).clearSlot id).bump .packsEnded
  else s

/-- The drain engine reports that PACK-END has been sent (R116): a CLOSED slot goes to ENDING. -/
def State.packEndSent (s : State) (id : SlotId) : State :=
  if (s.slot id).state = .closed then s.setSlot id { s.slot id with state := .ending } else s

end Sys2Proof.Machine
end

