-- ==== Sys2Proof/Machine/FetchEngine.lean ====
section
/-! DEFINITION. FEN (chapter 7): DATA, settling, the fetch deadline, and the fetch engine's part in a WITHDRAW and in an abort. -/

namespace Sys2Proof.Machine

/-- The fetch slot that is BUSY with a member (R124). -/
def State.fetchOf (s : State) (r : MemberRef) : Option (Fin 4) :=
  (List.finRange 4).find? fun i =>
    match s.fen.slots[i] with
    | some x => x.member = r
    | none => false

/-- Whether a fetch is RECEIVING a pair (R128). -/
def Fetch.receives (x : Fetch) (p : FilePair) : Bool :=
  match x.phase with
  | .receiving _ => x.pair = p
  | .waiting => false

/-- The fetch slot RECEIVING a pair, with what it holds (R128). -/
def State.receivingSlot (s : State) (p : FilePair) : Option (Fin 4 × Fetch) :=
  (List.finRange 4).findSome? fun i =>
    match s.fen.slots[i] with
    | some x => if x.receives p then some (i, x) else none
    | none => none

/-- A fetch slot becomes FREE and its FETCH item, if it waits, leaves the FETCH list (R126). -/
def State.dropFetch (s : State) (i : Fin 4) : State :=
  let s := s.setFetch i none
  s.withFen { s.fen with items := s.fen.items.filter (· ≠ i) }

/-- A fetch ends VOID for CHECKSUM or FETCH: slot FREE, member VOID and released, settling reported, next member taken
(R132-R134, R136). -/
def State.voidFetch (s : State) (i : Fin 4) (x : Fetch) (why : VoidReason) (reason : ReleaseReason) : State :=
  let s := s.dropFetch i
  let s := s.modMember x.member fun m => { m with state := .void why, released := true }
  let s := s.queueRelease x.pair reason
  (s.memberSettled x.member.slot).takeFetches

/-- The fields of a DATA body (R26). -/
structure DataBody where
  ticket  : Word32
  offset  : Nat
  last    : Bool
  payload : List Byte
deriving DecidableEq, Repr

/-- The completion of a fetch (R131, R132): DONE with the bytes past S zeroed, or VOID(CHECKSUM). -/
def State.completeFetch (s : State) (i : Fin 4) (x : Fetch) (running : Word32) : State :=
  if crcFinal running = x.crc then
    let s := if x.size % 512 ≠ 0 then
        s.writeFile x.member.slot x.headN x.size (List.replicate (512 - x.size % 512) 0)
      else s
    let s := (s.modMember x.member fun m => { m with state := .done }).bump .membersDone
    ((s.dropFetch i).memberSettled x.member.slot).takeFetches
  else (s.bump .checksumVoids).voidFetch i x .checksum .checksum

/-- An accepted DATA (R130): its bytes are written and run through the running CRC; it restarts the deadline or completes the
fetch. -/
def State.acceptData (s : State) (i : Fin 4) (x : Fetch) (d : DataBody) : State :=
  let s := (s.writeFile x.member.slot x.headN d.offset d.payload).bump .dataAccepted
  let running := crcRun x.running d.payload
  if d.last then s.completeFetch i x running
  else s.setFetch i (some
    { x with received := d.offset + d.payload.length, running := running,
             phase := .receiving (s.now + s.mgt.config.fetchTimeout) })

/-- A DATA addressed to this station arrives at the fetch engine (R128, R129). -/
def State.dataArrives (s : State) (source : Station) (d : DataBody) : State :=
  match s.receivingSlot ⟨source, d.ticket⟩ with
  | none => s.bump .strayData
  | some (i, x) =>
    if d.offset ≠ x.received then (s.bump .fetchGaps).voidFetch i x .fetch .fetch
    else if x.size < d.offset + d.payload.length then (s.bump .fetchOverruns).voidFetch i x .fetch .fetch
    else if d.last ∧ d.offset + d.payload.length < x.size then (s.bump .fetchShorts).voidFetch i x .fetch .fetch
    else s.acceptData i x d

/-- The deadline of a fetch slot (R124). -/
def State.fetchDeadline (s : State) (i : Fin 4) : Option Nat :=
  match s.fen.slots[i] with
  | some x =>
    match x.phase with
    | .receiving t => some t
    | .waiting => none
  | none => none

/-- The deadline of a RECEIVING slot expires (R134). -/
def State.fetchTimesOut (s : State) (i : Fin 4) : State :=
  match s.fen.slots[i] with
  | some x => (s.bump .fetchTimeouts).voidFetch i x .fetch .fetch
  | none => s

/-- A WITHDRAW reaches a GRANTED member (R137). -/
def State.withdrawGranted (s : State) (r : MemberRef) : State :=
  let s := s.withFen { s.fen with queue := s.fen.queue.filter (· ≠ r) }
  let s := s.modMember r fun m => { m with state := .void .withdrawn }
  (s.bump .withdrawnBeforeFetch).memberSettled r.slot

/-- A WITHDRAW reaches a FETCHING member (R138). -/
def State.withdrawFetching (s : State) (r : MemberRef) : State :=
  let s := match s.fetchOf r with
    | some i => s.dropFetch i
    | none => s
  let s := s.modMember r fun m => { m with state := .void .withdrawn }
  ((s.bump .withdrawnDuringFetch).memberSettled r.slot).takeFetches

/-- Whether a fetch slot is BUSY with a member of this pack slot. -/
def State.fetchesFor (s : State) (id : SlotId) (i : Fin 4) : Bool :=
  match s.fen.slots[i] with
  | some x => x.member.slot = id
  | none => false

/-- The fetch engine gives up every fetch of an aborted pack (R139). -/
def State.abortFetches (s : State) (id : SlotId) : State :=
  let s := s.withFen { s.fen with queue := s.fen.queue.filter fun r => r.slot ≠ id }
  let s := (List.finRange 4).foldl (fun s i => if s.fetchesFor id i then s.dropFetch i else s) s
  s.takeFetches

/-- RESTART and entry to HALTED: every fetch is cancelled (R142). -/
def State.cancelAllFetches (s : State) : State :=
  s.withFen { queue := [], slots := Vector.replicate 4 none, items := [] }

end Sys2Proof.Machine
end

