-- ==== Sys2Proof/Machine/Aborts.lean ====
section
/-! DEFINITION. ARU (chapter 10): the abort of a pack, the carry plan, the copies, and the aborting done by RESTART and entry to HALTED. -/

namespace Sys2Proof.Machine

/-! ### Copies and the end of a carry -/

/-- The slot that is CARRYING. -/
def State.carryingSlot (s : State) : Option SlotId :=
  if s.pkb.slotA.state = .carrying then some .a
  else if s.pkb.slotB.state = .carrying then some .b
  else none

/-- The HELD buffers of a slot become FREE (R186). -/
def State.freeHeld (s : State) (id : SlotId) : State :=
  (List.finRange 64).foldl (fun s i =>
    match s.buffer i with
    | ⟨.held, some (x, _)⟩ => if x = id then s.freeBuffer i else s
    | _ => s) s

/-- The carry ends (R186): its HELD buffers become FREE, its record is queued, and the CARRYING slot becomes FREE. -/
def State.endCarry (s : State) : State :=
  match s.carryingSlot with
  | some id =>
    let s := s.freeHeld id
    let s := match (s.slot id).record with
      | some r => s.queueRecord r
      | none => s
    s.clearSlot id
  | none => s

/-- The bytes of one copy are moved, cell by cell, and the target's head is written (R184). -/
def State.moveCopy (s : State) (c : Copy) : State :=
  let s := (List.range (c.footprint - 1)).foldl (fun s i =>
    s.writeCell c.target.slot (c.targetHead + 1 + i) (s.readCell c.source (c.sourceHead + 1 + i))) s
  match s.member? c.target with
  | some m => s.writeCell c.target.slot c.targetHead (memberHeadCell c.target.index m)
  | none => s

/-- A copy has left the queue (R184, R185): HELD buffers no longer needed become FREE, and an empty queue ends the carry. -/
def State.afterCopy (s : State) : State :=
  let s := s.freeIdleHeld
  if s.aru.copies.isEmpty then s.endCarry else s

/-- The running copy completes (R184). -/
def State.completeCopy (s : State) : State :=
  match s.aru.copies with
  | [] => s
  | c :: rest =>
    let s := s.modMember c.target fun m => if m.state = .copying then { m with state := .done } else m
    let s := (s.moveCopy c).memberSettled c.target.slot
    let s := (s.withAru { s.aru with copies := rest }).bump .copiesCompleted
    s.afterCopy

/-- A copy of a member of size 0 completes as soon as it starts (R184): such copies at the front complete, at most n of them. -/
def State.runEmptyCopies (s : State) : Nat → State
  | 0 => s
  | n + 1 =>
    match s.aru.copies with
    | [] => s
    | c :: _ => if c.footprint = 1 then s.completeCopy.runEmptyCopies n else s

/-- The copy at the front of the queue starts (R184). -/
def State.startCopies (s : State) : State := s.runEmptyCopies s.aru.copies.length

/-- Every copy in the queue is stopped and counted, and the carry ends (R186, R192). -/
def State.stopCarry (s : State) : State :=
  let n := s.aru.copies.length
  ((s.withAru { s.aru with copies := [] }).bumpBy .copiesStopped n).endCarry

/-- A WITHDRAW reaches a COPYING member (R185). Its settling is reported before the HELD buffers of its copy become FREE, in the order of a
completion (R184): the model's choice (log entry 29). -/
def State.withdrawCopying (s : State) (r : MemberRef) : State :=
  let s := s.modMember r fun m => { m with state := .void .withdrawn }
  let s := (s.withAru { s.aru with copies := s.aru.copies.filter fun c => c.target ≠ r }).bump .copiesStopped
  (s.memberSettled r.slot).afterCopy.startCopies

/-! ### The parts of an abort -/

/-- Whether a cause plans a carry (R177). -/
def AbortCause.plansCarry : AbortCause → Bool
  | .media | .offline | .timeout | .damage => true
  | .restart | .halt => false

/-- The reason members not carried are released with (R177). -/
def AbortCause.reason : AbortCause → ReleaseReason
  | .restart => .restart
  | .media | .offline | .timeout | .damage | .halt => .abort

/-- The counter of an abort cause (R193). -/
def AbortCause.counter : AbortCause → Ctr
  | .media => .packsAbortedMedia
  | .offline => .packsAbortedOffline
  | .timeout => .packsAbortedTimeout
  | .damage => .packsAbortedDamage
  | .restart => .packsAbortedRestart
  | .halt => .packsAbortedHalt

/-- The segments of a slot's pack that count as stored (R190): the current pack's count, 0 for any other. -/
def State.storedCount (s : State) (id : SlotId) : Nat :=
  match s.drn.current with
  | some c => if c.slot = id then c.stored else 0
  | none => 0

/-- The record begun at step 1 of an abort (R178, R190); the carried-out and released counts are completed later. -/
def State.abortedRecord (s : State) (id : SlotId) (cause : AbortCause) : PackRecord :=
  let x := s.slot id
  { station := s.lif.station, epoch := s.mgt.config.epoch, seq := x.seq, outcome := .aborted cause,
    segments := s.storedCount id, members := x.members.length,
    voids := x.members.countP fun m => m.state.isVoid, carriedOut := 0,
    released := x.members.countP fun m => m.released, key := x.primaryKey.getD 0,
    openTime := x.openTime.getD 0, closeTime := s.timestamp }

/-- The pending claims of an aborted slot (R92): a WAITING one is removed, a SENT one becomes an orphan. -/
def orphanClaims (id : SlotId) (claims : List Claim) : List Claim :=
  claims.filterMap fun c =>
    if c.slot = some id then
      match c.phase with
      | .waiting => none
      | .sent _ => some { c with slot := none }
    else some c

/-- ABANDON is issued when a record waits (R173). -/
def State.issueAbandon (s : State) : State :=
  match s.drn.abandon with
  | some r =>
    let s := s.withDrn { s.drn with abandon := none }
    (s.emit (.message (.abandon s.lif.station r.epoch r.seq r.stored))).bump .abandonsSent
  | none => s

/-- The drain engine's part in an abort (R172): the pack's queued segments leave; for the current pack the window empties, the
timeout stops, and the abandon record is made and, with the port UP, issued at once. -/
def State.abortDrain (s : State) (id : SlotId) : State :=
  let s := s.withDrn { s.drn with queue := s.drn.queue.filter fun x => x.slot ≠ id }
  match s.drn.current with
  | some c =>
    if c.slot = id then
      let s := s.withDrn
        { s.drn with window := [], deadline := none, current := none, abandon := some ⟨c.epoch, c.seq, c.stored⟩ }
      if s.drn.port = .up then s.issueAbandon else s
    else s
  | none => s

/-- Whether a member's every segment has a buffer in FILLING, READY or DRAINING (R180). -/
def State.qualifies (s : State) (id : SlotId) (m : Member) : Bool :=
  (segmentsOf m.headN m.footprint).all fun k =>
    (List.finRange 64).any fun i => (s.buffer i).bound = some (id, k) && s.heldByPack id i

/-- The members of a table that an abort offers for carry, in index order (R179, R180). -/
def State.offeredMembers (s : State) (id : SlotId) : List Member :=
  (s.slot id).members.filter fun m => m.state = .done && s.qualifies id m

/-- The target of a carry (R181): the other slot, if it is FORMING or OPEN, or FREE and a pack can form there. -/
def State.carryTarget (s : State) (id : SlotId) : Option SlotId :=
  match (s.slot id.other).state with
  | .forming | .opened => some id.other
  | .free => if s.canForm then some id.other else none
  | .closing | .closed | .ending | .carrying | .aborted => none

/-- The plan (R182): members are tested and placed in index order until one fails either test. The answer pairs the state with the
number of members carried. -/
def State.carryMembers (src tgt : SlotId) : List Member → State → State × Nat
  | [], s => (s, 0)
  | m :: rest, s =>
    let room := if (s.slot tgt).state = .free then s.emptyRoom else s.roomOf tgt
    if room.fits m.footprint && room.demandWith m.footprint ≤ s.bufferCount .free then
      let s := if (s.slot tgt).state = .free then s.formSlot tgt none else s
      let c : Copy :=
        { source := src, sourceHead := m.headN, footprint := m.footprint,
          target := ⟨tgt, (s.slot tgt).members.length⟩, targetHead := (s.slot tgt).e }
      let s := s.place tgt m.file m.key true
      let s := (s.withAru { s.aru with copies := s.aru.copies ++ [c] }).bump .membersCarried
      let r := State.carryMembers src tgt rest s
      (r.1, r.2 + 1)
    else (s, 0)

/-- The releases of an abort, in member-index order (R179, R189): nothing for a VOID member, nothing for one of the first `carried`
offered members, FULL for the offered ones after them when there is a target, the cause's reason for the rest. -/
def abortReleases (reason : ReleaseReason) (offers : Member → Bool) (hasTarget : Bool) :
    Nat → List Member → List Release
  | _, [] => []
  | carried, m :: rest =>
    if m.state.isVoid then abortReleases reason offers hasTarget carried rest
    else if offers m && hasTarget then
      match carried with
      | 0 => ⟨m.file.pair, .full⟩ :: abortReleases reason offers hasTarget 0 rest
      | n + 1 => abortReleases reason offers hasTarget n rest
    else ⟨m.file.pair, reason⟩ :: abortReleases reason offers hasTarget carried rest

/-- The records of an abort join the release list in order (R189). -/
def State.queueReleases (s : State) (rs : List Release) : State :=
  rs.foldl (fun s r => s.queueRelease r.pair r.reason) s

/-- Steps 1 to 5 of an abort (R178): the cause is counted, the ABORTED beacon triggered, and the slot stops accepting, committing,
claiming, fetching and draining. -/
def State.abortBegin (s : State) (id : SlotId) (cause : AbortCause) : State :=
  let accepting := (s.slot id).state.accepting
  let s := (s.bump cause.counter).triggerBeacon id .aborted
  let s := if accepting then s.stopBeaconTimer else s
  let s := s.setSlot id { s.slot id with state := .aborted, ageDeadline := none, commitPoint := none }
  let s := s.recomputePromised
  let s := s.withSel { s.sel with claims := orphanClaims id s.sel.claims }
  (s.abortFetches id).abortDrain id

/-- Step 6 of an abort (R179-R183): the buffers no offered member touches are freed, the plan is made, and the remaining buffers are
held or freed. The answer pairs the state with the number of members carried. -/
def State.abortPlan (s : State) (id : SlotId) (offered : List Member) (target : Option SlotId) : State × Nat :=
  let s := s.freeUntouched id (if target.isSome then offered else [])
  let r := match target with
    | some t => State.carryMembers id t offered s
    | none => (s, 0)
  let s := r.1.holdOrFree id (offered.take r.2)
  (if !offered.isEmpty && r.2 = 0 then s.bump .carriesWithoutTarget else s, r.2)

/-- An abort of the target of a running carry stops that carry (R186); any other abort leaves it. -/
def State.stopCarryInto (s : State) (id : SlotId) (copies : List Copy) : State :=
  if copies.any fun c => c.target.slot = id then s.stopCarry else s

/-- Step 8 of an abort (R183, R190): CARRYING with the record held back when members were carried, else ABORTED, whose record is
queued and whose slot becomes FREE in the same event. -/
def State.abortFinish (s : State) (id : SlotId) (carried : Nat) (r : PackRecord) : State :=
  if (s.slot id).state = .aborted then
    if carried = 0 then (s.queueRecord r).clearSlot id
    else (s.setSlot id
      { s.slot id with state := .carrying, members := [], manifest := none, record := some r }).startCopies
  else s

/-- The abort of a pack (R178). A slot not in OPEN, CLOSING, CLOSED or ENDING is not aborted (R177). -/
def State.abortPack (s : State) (id : SlotId) (cause : AbortCause) : State :=
  if (s.slot id).state.abortable then
    let begun := s.abortedRecord id cause
    let earlier := s.aru.copies
    let s := s.abortBegin id cause
    let members := (s.slot id).members
    let offered := if cause.plansCarry then s.offeredMembers id else []
    let target := if offered.isEmpty then none else s.carryTarget id
    let offers := fun m : Member => cause.plansCarry && m.state = .done && s.qualifies id m
    let plan := s.abortPlan id offered target
    let releases := abortReleases cause.reason offers target.isSome plan.2 members
    let s := plan.1.queueReleases releases
    let s := s.stopCarryInto id earlier
    s.abortFinish id plan.2 { begun with carriedOut := plan.2, released := begun.released + releases.length }
  else s

/-! ### RESTART and entry to HALTED -/

/-- A FORMING slot returns to FREE (R102, R192). -/
def State.abandonIfForming (s : State) (id : SlotId) : State :=
  if (s.slot id).state = .forming then s.abandonForm id else s

/-- The two slots in increasing sequence order (R192). -/
def State.slotsBySeq (s : State) : List SlotId :=
  if s.pkb.slotB.seq.toNat < s.pkb.slotA.seq.toNat then [.b, .a] else [.a, .b]

/-- The aborting done by RESTART and entry to HALTED (R192), after the run state has changed: claims and fetches are dropped, a
FORMING slot returns to FREE, a carry is stopped, every slot from OPEN onward is aborted without carry in increasing sequence order,
and every buffer not RETIRED becomes FREE. -/
def State.abortEverything (s : State) (cause : AbortCause) : State :=
  let s := s.withSel { claims := [], sweepAt := none }
  let s := s.cancelAllFetches.silenceBeacons
  let s := (s.abandonIfForming .a).abandonIfForming .b
  let s := s.stopCarry
  let s := s.slotsBySeq.foldl (fun s id => s.abortPack id cause) s
  s.freeAllBuffers

end Sys2Proof.Machine
end

