-- ==== Sys2Proof/Machine/DrainEngine.lean ====
section
/-! DEFINITION. DRN (chapter 9): the next-message choice, the send-time check, acknowledgement, faults and the drain timeout. -/

namespace Sys2Proof.Machine

/-! ### Sending -/

/-- A message issued into an empty window starts the drain timeout (R170). -/
def State.startDrainTimeout (s : State) : State :=
  if s.drn.window.isEmpty then s.withDrn { s.drn with deadline := some (s.now + s.mgt.config.drainTimeout) } else s

/-- PACK-START for the pack of the front entry, which becomes current (R165, row 2). -/
def State.startPack (s : State) (x : DrainEntry) : State :=
  let sl := s.slot x.slot
  let c : CurrentPack :=
    { slot := x.slot, epoch := s.mgt.config.epoch, seq := sl.seq, next := 0, stored := 0, endSent := false }
  let s := s.withDrn { s.drn with current := some c }
  (s.emit (.message (.packStart s.lif.station s.mgt.config.epoch sl.seq sl.limit (sl.primaryKey.getD 0)
    (sl.openTime.getD 0)))).bump .packStartsSent

/-- The 1,048,576 bytes of a buffer as read for sending (R166). -/
def State.readBuffer (s : State) (b : Fin 64) : List Byte := s.mem.readRange (cellAddr b 0) bufferBytes

/-- The send-time check (R167): the tail's data CRC against the CRC-32 of cells 0 to 2,046. -/
def sendCheck (cells : List Byte) : Bool :=
  fieldAt cells (512 * 2047 + 18) 4 = (crc32 (cells.take (512 * 2047))).toNat

/-- SEGMENT is issued for the current pack's next segment (R166). -/
def State.sendSegment (s : State) (c : CurrentPack) (x : DrainEntry) (rest : List DrainEntry) (cells : List Byte) : State :=
  let s := s.setBuffer x.buffer ⟨.draining, (s.buffer x.buffer).bound⟩
  let s := s.startDrainTimeout
  let s := s.withDrn
    { s.drn with queue := rest, window := s.drn.window ++ [.segment c.next], current := some { c with next := c.next + 1 } }
  (s.emit (.message (.segment s.lif.station c.epoch c.seq c.next cells))).bump .segmentsSent

/-- The send-time check has failed (R153, R167): the buffer is RETIRED and unbound, and the pack is aborted with cause DAMAGE. -/
def State.damagedSegment (s : State) (c : CurrentPack) (x : DrainEntry) (rest : List DrainEntry) : State :=
  let s := s.withDrn { s.drn with queue := rest }
  let s := (s.setBuffer x.buffer ⟨.retired, none⟩).bump .sendCheckRetirements
  s.abortPack c.slot .damage

/-- Whether the current pack's last segment has been issued and its PACK-END has not (R165, row 4; R168). -/
def State.packEndDue (s : State) (c : CurrentPack) : Option Manifest :=
  match (s.slot c.slot).manifest with
  | some mf => if c.next = mf.packLength ∧ c.endSent = false then some mf else none
  | none => none

/-- PACK-END is issued, and the pack builder is told (R116, R168). -/
def State.sendPackEnd (s : State) (c : CurrentPack) (mf : Manifest) : State :=
  let s := s.startDrainTimeout
  let s := s.withDrn { s.drn with window := s.drn.window ++ [.packEnd], current := some { c with endSent := true } }
  let s := (s.emit (.message (.packEnd s.lif.station c.epoch c.seq mf.packLength mf.entries.length))).bump .packEndsSent
  s.packEndSent c.slot

/-- The next issue of the next-message choice, by the first row that applies (R165). Each issue is an event of its own, made
by a step in which no command waits (log entry 32), so a command can be taken between any two. -/
def State.nextIssue (s : State) : Option State :=
  if s.drn.port = .down then none
  else match s.drn.abandon with
  | some _ => some s.issueAbandon
  | none =>
    match s.drn.current, s.drn.queue with
    | none, [] => none
    | none, x :: _ => some (s.startPack x)
    | some c, queue =>
      if s.drn.window.length < 4 then
        let packEnd := (s.packEndDue c).map (s.sendPackEnd c)
        match queue with
        | x :: rest =>
          if x.slot = c.slot ∧ x.segment = c.next then
            let cells := s.readBuffer x.buffer
            some (if sendCheck cells then s.sendSegment c x rest cells else s.damagedSegment c x rest)
          else packEnd
        | [] => packEnd
      else none

/-! ### Messages from the mover -/

/-- The fields of a STORED (R162). -/
structure StoredBody where
  epoch   : Word32
  seq     : Word32
  segment : Word32
deriving DecidableEq, Repr

/-- The value that names END in a STORED (R162). -/
def storedEnd : Word32 := 0xFFFFFFFF#32

/-- Whether a STORED names a message of the window (R169). -/
def WindowMsg.named (w : WindowMsg) (segment : Word32) : Bool :=
  match w with
  | .segment k => segment ≠ storedEnd && segment.toNat = k
  | .packEnd => segment = storedEnd

/-- The drain timeout restarts for the message now oldest, or stops (R169, R170). -/
def State.retimeWindow (s : State) (rest : List WindowMsg) : State :=
  s.withDrn
    { s.drn with
      window := rest,
      deadline := if rest.isEmpty then none else some (s.now + s.mgt.config.drainTimeout) }

/-- The pool is told that a segment is stored (R151): its DRAINING buffer becomes FREE. -/
def State.storeBuffer (s : State) (id : SlotId) (k : Nat) : State :=
  match s.bufferOf id k with
  | some b => if (s.buffer b).state = .draining then (s.freeBuffer b).bump .buffersStored else s
  | none => s

/-- An accepted STORED (R169). -/
def State.acceptStored (s : State) (c : CurrentPack) (w : WindowMsg) (rest : List WindowMsg) : State :=
  let s := (s.retimeWindow rest).bump .storedAccepted
  match w with
  | .segment k =>
    (s.withDrn { s.drn with current := some { c with stored := c.stored + 1 } }).storeBuffer c.slot k
  | .packEnd => (s.withDrn { s.drn with current := none }).endPack c.slot

/-- The pack and message a STORED is accepted for: the current pack and the oldest message of the window, if it names them (R169). -/
def State.storedMatch (s : State) (b : StoredBody) : Option (CurrentPack × WindowMsg × List WindowMsg) :=
  match s.drn.current, s.drn.window with
  | some c, w :: rest =>
    if b.epoch = c.epoch ∧ b.seq = c.seq ∧ w.named b.segment then some (c, w, rest) else none
  | _, _ => none

/-- The reasons of a FAULT (R162). -/
inductive FaultReason where
  | media | offline
deriving DecidableEq, Repr

/-- The fields of a FAULT (R162). -/
structure FaultBody where
  epoch  : Word32
  seq    : Word32
  reason : FaultReason
deriving DecidableEq, Repr

/-- The current pack, if a FAULT names it (R171). -/
def State.faultMatch (s : State) (b : FaultBody) : Option CurrentPack :=
  match s.drn.current with
  | some c => if b.epoch = c.epoch ∧ b.seq = c.seq then some c else none
  | none => none

/-- The port goes DOWN (R164). -/
def State.portDown (s : State) : State := s.withDrn { s.drn with port := .down }

/-- An accepted FAULT (R171). -/
def State.acceptFault (s : State) (c : CurrentPack) : FaultReason → State
  | .media => (s.bump .mediaFaults).abortPack c.slot .media
  | .offline => ((s.bump .offlineFaults).portDown).abortPack c.slot .offline

/-- The drain timeout expires (R170). -/
def State.drainTimesOut (s : State) : State :=
  let s := (s.bump .drainTimeouts).portDown
  let s := s.withDrn { s.drn with deadline := none }
  match s.drn.current with
  | some c => s.abortPack c.slot .timeout
  | none => s

end Sys2Proof.Machine
end

