-- ==== Sys2Proof/Machine/Selector.lean ====
section
/-! DEFINITION. OFT and SEL (chapters 3 and 5): the candidate list, selection rounds, and the answers to claims. -/

namespace Sys2Proof.Machine

/-! ### The candidate list -/

/-- The affinity key of a tag (R48): rotated left, then masked. -/
def affinityKey (cfg : ConfigRecord) (tag : Word64) : Word64 := tag.rotateLeft cfg.rotation &&& cfg.keyMask

/-- The key an entry takes when it is recorded: present while the configuration is frozen (R48). -/
def State.keyNow (s : State) (tag : Word64) : Option Word64 :=
  if s.mgt.frozen then some (affinityKey s.mgt.config tag) else none

/-- A listed candidate (R41). -/
def State.candidate? (s : State) (p : FilePair) : Option Candidate :=
  s.oft.candidates.find? fun c => c.file.pair = p

/-- The list without a pair's entry. -/
def dropCandidate (p : FilePair) (cs : List Candidate) : List Candidate := cs.filter fun c => c.file.pair ≠ p

/-- The state with another candidate list. -/
def State.setCandidates (s : State) (cs : List Candidate) : State := s.withOft { s.oft with candidates := cs }

/-- A pending claim of a pair, in either phase (R73). -/
def State.claim? (s : State) (p : FilePair) : Option Claim := s.sel.claims.find? fun c => c.file.pair = p

/-- Whether a pair is held elsewhere (R42): a pending claim, or a member that is not VOID. -/
def State.heldHere (s : State) (p : FilePair) : Bool := (s.claim? p).isSome || (s.liveMember p).isSome

/-- The offer table tells the selector of a change, while the configuration is frozen (R44, R45). -/
def State.notifyIfFrozen (s : State) : State := if s.mgt.frozen then s.wakeUp else s

/-- A new entry joins the end of the list (R44, R50). -/
def State.addCandidate (s : State) (f : FileInfo) : State :=
  (s.setCandidates (s.oft.candidates ++ [⟨f, s.keyNow f.tag, s.mgt.clock, none⟩])).notifyIfFrozen

/-- A listed entry's fields are replaced; its place, first-heard time and mark stay (R45). -/
def State.replaceCandidate (s : State) (f : FileInfo) : State :=
  (s.setCandidates (s.oft.candidates.map fun c =>
    if c.file.pair = f.pair then { c with file := f, key := s.keyNow f.tag } else c)).notifyIfFrozen

/-- A full list with its front entry evicted, so that it holds 1,023 (R46). -/
def makeRoom (cs : List Candidate) : List Candidate := cs.drop (cs.length - 1023)

/-- An OFFER reaches the offer table (R43-R47). -/
def State.offerArrives (s : State) (f : FileInfo) : State :=
  if s.heldHere f.pair then s.bump .heldFileOffers
  else if 16777216 < f.size then
    (s.setCandidates (dropCandidate f.pair s.oft.candidates)).bump .oversizeOffers
  else if (s.candidate? f.pair).isSome then s.replaceCandidate f
  else if s.oft.candidates.length < 1024 then s.addCandidate f
  else ((s.setCandidates (makeRoom s.oft.candidates)).bump .candidateEvictions).addCandidate f

/-- A listed pair is removed and counted; an unlisted one leaves the list as it is (R54, R55). -/
def State.removeCandidate (s : State) (p : FilePair) (counter : Ctr) : State :=
  if (s.candidate? p).isSome then (s.setCandidates (dropCandidate p s.oft.candidates)).bump counter else s

/-- The contest hold (R51): twice the claim timeout in force. -/
def contestHold (cfg : ConfigRecord) : Nat := 2 * cfg.claimTimeout

/-- The mark an arriving CLAIM makes (R51): an end time while the clock runs, else one that pends. -/
def State.contestMark (s : State) : Contest :=
  match s.mgt.clock with
  | some t => .endsAt (t + contestHold s.mgt.config)
  | none => .pendingEnd

/-- Another packer's CLAIM reaches the offer table (R51). -/
def State.claimHeard (s : State) (p : FilePair) : State :=
  s.setCandidates (s.oft.candidates.map fun c =>
    if c.file.pair = p then { c with contest := some s.contestMark } else c)

/-- The end time of an entry's contest mark, if it has one (R51, R52). -/
def Candidate.contestEnd (c : Candidate) : Option Nat :=
  match c.contest with
  | some (.endsAt t) => some t
  | some .pendingEnd => none
  | none => none

/-- A contest mark expires (R52): the mark is removed and the selector is notified. -/
def State.contestExpires (s : State) (p : FilePair) : State :=
  (s.setCandidates (s.oft.candidates.map fun c =>
    if c.file.pair = p then { c with contest := none } else c)).wakeUp

/-- What START does to an entry (R49): its key is computed, an unset first-heard time becomes 0, and a pending contest mark takes
its end time. -/
def Candidate.atStart (cfg : ConfigRecord) (c : Candidate) : Candidate where
  file := c.file
  key := some (affinityKey cfg c.file.tag)
  firstHeard := some (c.firstHeard.getD 0)
  contest := match c.contest with
    | some .pendingEnd => some (.endsAt (contestHold cfg))
    | other => other

/-- What RESTART without purge does to an entry (R57). -/
def Candidate.atRestart (c : Candidate) : Candidate where
  file := c.file
  key := none
  firstHeard := none
  contest := none

/-! ### Eligibility and score -/

/-- The age of a candidate, in whole seconds (R50). -/
def State.ageOf (s : State) (c : Candidate) : Nat := (s.now - c.firstHeard.getD 0) / 1000

/-- The key a round compares candidates with (R76): the primary key of an OPEN pack, the tentative key of a FORMING one. -/
def Slot.roundKey (x : Slot) : Option Word64 :=
  match x.state with
  | .opened => x.primaryKey
  | .forming => x.tentativeKey
  | .free | .closing | .closed | .ending | .carrying | .aborted => none

/-- The affinity term A (R76), by the first row of its table that applies. -/
def State.affinity (s : State) (c : Candidate) : Option Nat :=
  match c.key with
  | none => none
  | some key =>
    match s.accepting with
    | none => if s.heldElsewhere key then none else some 320
    | some id =>
      match (s.slot id).roundKey with
      | none => none
      | some packKey =>
        if key = packKey then some 512
        else if !s.heldElsewhere key && s.mgt.config.strayAge ≤ s.ageOf c then some 128
        else none

/-- The quantities a round tests against: the accepting pack's, or those of a pack about to form (R76). -/
def State.roundRoom (s : State) : Room :=
  match s.accepting with
  | some id => s.roomOf id
  | none => s.emptyRoom

/-- Whether a candidate is eligible, with its affinity term (R76). -/
def State.eligible (s : State) (c : Candidate) : Option Nat :=
  match s.affinity c with
  | none => none
  | some a =>
    let f := footprintOf c.file.size
    if c.contest.isNone && s.roundRoom.fits f && s.roundRoom.demandWith f ≤ s.bufferCount .free then some a else none

/-- The priority term P (R77). -/
def priorityTerm (cls : Nat) : Nat := 96 * min cls 3

/-- The age term G (R77). -/
def ageTerm (age : Nat) : Nat := min (age / 2) 223

/-- The score of an eligible candidate (R77). -/
def State.score? (s : State) (c : Candidate) : Option Nat :=
  (s.eligible c).map fun a => a + priorityTerm c.file.cls + ageTerm (s.ageOf c)

/-- The first candidate with the highest score, with that score (R78). -/
def State.best (s : State) : List Candidate → Option (Candidate × Nat)
  | [] => none
  | c :: rest =>
    match s.score? c, s.best rest with
    | some n, some (d, m) => if n < m then some (d, m) else some (c, n)
    | some n, none => some (c, n)
    | none, r => r

/-! ### Rounds and admission -/

/-- Whether a claim is WAITING (R73). -/
def Claim.isWaiting (c : Claim) : Bool :=
  match c.phase with
  | .waiting => true
  | .sent _ => false

/-- Whether a wake-up runs a round (R75). -/
def State.roundRuns (s : State) : Bool :=
  s.mgt.run = .run && s.sel.claims.all (fun c => !c.isWaiting) && s.sel.claims.length < s.mgt.config.pendingMax &&
    match s.accepting with
    | some id => (s.slot id).state = .forming || (s.slot id).state = .opened
    | none => s.canForm

/-- Admission (R79): the candidate moves to the pending claim table, bound to the accepting slot or to a pack that forms for it. -/
def State.admitCandidate (s : State) (c : Candidate) : State :=
  let key := c.key.getD 0
  let id := s.accepting.getD s.formingSlot
  let s := if s.accepting.isNone then s.formSlot id (some key) else s
  let s := s.setCandidates (dropCandidate c.file.pair s.oft.candidates)
  let s := s.withSel { s.sel with claims := s.sel.claims ++ [⟨c.file, key, some id, .waiting⟩] }
  s.claimAdmitted id

/-- A selection round (R75-R78). -/
def State.selectionRound (s : State) : State :=
  if s.roundRuns then
    match s.best s.oft.candidates with
    | some (c, n) => if s.mgt.config.admitFloor ≤ n then s.admitCandidate c else s
    | none => s
  else s

/-- The wake-ups of the step reach the selector: a round is run if the conditions hold, and they are spent (R74, R75). -/
def State.roundIfWoken (s : State) : State :=
  if s.wake then (s.withWake false).selectionRound else s

/-! ### Answers to claims -/

/-- The table without a pair's entry. -/
def dropClaim (p : FilePair) (cs : List Claim) : List Claim := cs.filter fun c => c.file.pair ≠ p

/-- The state with a pair's pending entry removed. -/
def State.removeClaim (s : State) (p : FilePair) : State := s.withSel { s.sel with claims := dropClaim p s.sel.claims }

/-- A pending entry ends without placement (R91): it leaves the table, the pack builder is told if it was bound, and the selector is
woken. -/
def State.endClaim (s : State) (c : Claim) (counter : Ctr) : State :=
  let s := (s.removeClaim c.file.pair).bump counter
  let s := match c.slot with
    | some id => s.claimEnded id
    | none => s
  s.wakeUp

/-- A pair's pending entry, if any, ends without placement (R87-R90). -/
def State.endClaimOf (s : State) (p : FilePair) (counter : Ctr) : State :=
  match s.claim? p with
  | some c => s.endClaim c counter
  | none => s

/-- A GRANT naming this station reaches the selector (R82-R86). -/
def State.grantedHere (s : State) (p : FilePair) : State :=
  match s.claim? p with
  | some c =>
    let s := s.removeClaim p
    match c.slot with
    | some id => ((s.bump .claimsPlaced).place id c.file c.key false)
    | none => ((s.queueRelease p .abort).bump .abortedClaimGrants).wakeUp
  | none =>
    if s.isMember p then s.bump .duplicateGrants
    else (s.queueRelease p .late).bump .lateGrants

/-- A GRANT naming another station reaches the offer table and the selector (R54, R87). -/
def State.grantedElsewhere (s : State) (p : FilePair) : State :=
  (s.removeCandidate p .candidatesTakenElsewhere).endClaimOf p .claimsLost

/-- The reasons of a REFUSE (R26). -/
inductive RefuseReason where
  | taken | withdrawn | unknown
deriving DecidableEq, Repr

/-- The selector's counter of a refusal (R88, R95). -/
def RefuseReason.counter : RefuseReason → Ctr
  | .taken => .claimsRefusedTaken
  | .withdrawn => .claimsRefusedWithdrawn
  | .unknown => .claimsRefusedUnknown

/-- A REFUSE naming this station reaches the selector (R88). -/
def State.refusedHere (s : State) (p : FilePair) (reason : RefuseReason) : State :=
  match s.claim? p with
  | some c => s.endClaim c reason.counter
  | none => s.bump .strayRefusals

/-- A REFUSE naming another claimant reaches the offer table (R54). -/
def State.refusedElsewhere (s : State) (p : FilePair) : RefuseReason → State
  | .taken => s.removeCandidate p .candidatesTakenElsewhere
  | .withdrawn => s.removeCandidate p .candidatesWithdrawn
  | .unknown => s

/-- A WITHDRAW reaches the pack builder (R112-R114), which acts on the pair's member that is not VOID by its state and its slot's. -/
def State.withdrawnMember (s : State) (p : FilePair) : State :=
  match s.liveMember p with
  | none => s
  | some r =>
    match (s.slot r.slot).state, (s.member? r).map Member.state with
    | .opened, some .granted | .closing, some .granted => s.withdrawGranted r
    | .opened, some .fetching | .closing, some .fetching => s.withdrawFetching r
    | .opened, some .copying | .closing, some .copying => s.withdrawCopying r
    | .opened, some .done | .closing, some .done =>
      let s := s.modMember r fun m => { m with state := .void .withdrawn }
      (s.bump .doneMembersWithdrawn).testClose r.slot
    | .closed, some _ | .ending, some _ => s.bump .lateWithdraws
    | _, _ => s

/-- A WITHDRAW reaches the offer table, the selector and the pack builder (R31, R55, R89, R112). -/
def State.withdrawArrives (s : State) (p : FilePair) : State :=
  ((s.removeCandidate p .candidatesWithdrawn).endClaimOf p .claimsWithdrawn).withdrawnMember p

/-- The deadline of a pair's pending claim (R73). -/
def State.claimDeadline (s : State) (p : FilePair) : Option Nat :=
  match s.claim? p with
  | some c =>
    match c.phase with
    | .sent t => some t
    | .waiting => none
  | none => none

end Sys2Proof.Machine
end

