-- ==== Sys2Proof/Machine/Operands.lean ====
section
/-! DEFINITION. The operands as bytes: the layout of every frame and message the part takes or sends (R24-R26, R161, R162), and of the
configuration record (R199). -/

namespace Sys2Proof.Machine

/-! ### Frames: forming -/

/-- The five header bytes of a frame (R24). -/
def headerBytes (kind sender target : Byte) (bodyLength : Nat) : List Byte :=
  [kind, sender, target] ++ le 2 bodyLength

/-- A whole frame of this station (R24, R35). -/
def formFrame (kind : Byte) (sender : Station) (target : Byte) (body : List Byte) : List Byte :=
  let covered := headerBytes kind (BitVec.ofNat 8 sender.val) target body.length ++ body
  covered ++ le 4 (crc32 covered).toNat

/-- The target byte of a broadcast frame (R24). -/
def broadcast : Byte := 0xFF#8

/-- The target byte of an addressed frame (R24). -/
def stationByte (st : Station) : Byte := BitVec.ofNat 8 st.val

/-- A CLAIM (R26, R80). -/
def claimFrame (sender : Station) (p : FilePair) (seq : Word32) : List Byte :=
  formFrame 0x41#8 sender broadcast ([stationByte p.source] ++ le 4 p.ticket.toNat ++ le 4 seq.toNat)

/-- A FETCH (R26, R126). -/
def fetchFrame (sender : Station) (p : FilePair) : List Byte :=
  formFrame 0x42#8 sender (stationByte p.source) (le 4 p.ticket.toNat)

/-- The reason code of a RELEASE (R26). -/
def ReleaseReason.code : ReleaseReason → Nat
  | .late => 1
  | .checksum => 2
  | .fetch => 3
  | .abort => 4
  | .full => 5
  | .restart => 6

/-- A RELEASE (R26, R188). -/
def releaseFrame (sender : Station) (r : Release) : List Byte :=
  formFrame 0x43#8 sender (stationByte r.pair.source) (le 4 r.pair.ticket.toNat ++ le 1 r.reason.code)

/-- The state code of a BEACON (R26). -/
def PackPhase.code : PackPhase → Nat
  | .opened => 1
  | .closing => 2
  | .closed => 3
  | .aborted => 4

/-- A BEACON (R26, R63). -/
def beaconFrame (sender : Station) (x : BeaconItem) : List Byte :=
  formFrame 0x44#8 sender broadcast
    (le 4 x.epoch.toNat ++ le 4 x.seq.toNat ++ le 1 x.phase.code ++ le 8 x.key.toNat ++ le 4 x.fill ++ le 2 x.members)

/-! ### Frames: the tests of reception -/

/-- The bytes the frame check covers (R24). -/
def coveredBytes (kind : Byte) (f : Frame) : List Byte :=
  headerBytes kind f.sender f.target f.bodyLength.toNat ++ f.body

/-- The length and check test (R27) of a frame that has its header and check: its delimited length is 9 bytes and its body. -/
def passesCheck (kind : Byte) (f : Frame) : Bool :=
  9 + f.body.length ≤ 4209 && crc32 (coveredBytes kind f) = f.check

/-- A byte as a station number, if it is one. -/
def stationOf (b : Byte) : Option Station := if h : b.toNat < 32 then some ⟨b.toNat, h⟩ else none

/-- A number field as a station number, if it is one. -/
def stationOfNat (n : Nat) : Option Station := if h : n < 32 then some ⟨n, h⟩ else none

/-- Whether a frame's length field and target form are those of a broadcast kind (R28). -/
def broadcastForm (f : Frame) : Bool := f.bodyLength.toNat = f.body.length && f.target = broadcast

/-- The target of a frame whose length field and target form are those of an addressed kind (R28). -/
def addressedTo (f : Frame) : Option Station :=
  if f.bodyLength.toNat = f.body.length then stationOf f.target else none

/-- A ticket at an offset of a body. -/
def ticketAt (body : List Byte) (off : Nat) : Word32 := BitVec.ofNat 32 (fieldAt body off 4)

/-- The body of a well-formed OFFER (R26, R28), as the fields of a file of this sender. -/
def readOffer (f : Frame) (sender : Station) : Option FileInfo :=
  let b := f.body
  if broadcastForm f && 22 ≤ b.length && b.length = 22 + fieldAt b 21 1 && fieldAt b 21 1 ≤ 200 && fieldAt b 20 1 ≤ 15 then
    some
      { pair := ⟨sender, ticketAt b 0⟩, tag := BitVec.ofNat 64 (fieldAt b 4 8), size := fieldAt b 12 4,
        crc := BitVec.ofNat 32 (fieldAt b 16 4), cls := fieldAt b 20 1, name := b.drop 22 }
  else none

/-- The body of a well-formed WITHDRAW (R26, R28). -/
def readWithdraw (f : Frame) (_sender : Station) : Option Word32 :=
  if broadcastForm f && f.body.length = 4 then some (ticketAt f.body 0) else none

/-- The body of a well-formed GRANT (R26, R28): ticket and grantee. -/
def readGrant (f : Frame) (_sender : Station) : Option (Word32 × Station) :=
  if broadcastForm f && f.body.length = 5 then (stationOfNat (fieldAt f.body 4 1)).map (ticketAt f.body 0, ·) else none

/-- The reason of a REFUSE, if the code is one (R26). -/
def refuseReason : Nat → Option RefuseReason
  | 1 => some .taken
  | 2 => some .withdrawn
  | 3 => some .unknown
  | _ => none

/-- The body of a well-formed REFUSE (R26, R28): ticket, claimant, reason. -/
def readRefuse (f : Frame) (_sender : Station) : Option (Word32 × Station × RefuseReason) :=
  if broadcastForm f && f.body.length = 6 then
    match stationOfNat (fieldAt f.body 4 1), refuseReason (fieldAt f.body 5 1) with
    | some st, some r => some (ticketAt f.body 0, st, r)
    | _, _ => none
  else none

/-- The target and body of a well-formed DATA (R26, R28). -/
def readData (f : Frame) (_sender : Station) : Option (Station × DataBody) :=
  let b := f.body
  let n := fieldAt b 8 2
  if 11 ≤ b.length && b.length = 11 + n && 1 ≤ n && n ≤ 4096 && fieldAt b 10 1 ≤ 1 then
    (addressedTo f).map (·, { ticket := ticketAt b 0, offset := fieldAt b 4 4, last := fieldAt b 10 1 = 1, payload := b.drop 11 })
  else none

/-- The body of a well-formed CLAIM (R26, R28): the pair; the pack sequence is not used (R51). -/
def readClaim (f : Frame) (_sender : Station) : Option FilePair :=
  if broadcastForm f && f.body.length = 9 then (stationOfNat (fieldAt f.body 0 1)).map (⟨·, ticketAt f.body 1⟩) else none

/-- A well-formed FETCH (R26, R28): its target. -/
def readFetch (f : Frame) (_sender : Station) : Option Station :=
  if f.body.length = 4 then addressedTo f else none

/-- A well-formed RELEASE (R26, R28): its target. -/
def readRelease (f : Frame) (_sender : Station) : Option Station :=
  if f.body.length = 5 && 1 ≤ fieldAt f.body 4 1 && fieldAt f.body 4 1 ≤ 6 then addressedTo f else none

/-- The state of a BEACON, if the code is one (R26). -/
def packPhase : Nat → Option PackPhase
  | 1 => some .opened
  | 2 => some .closing
  | 3 => some .closed
  | 4 => some .aborted
  | _ => none

/-- The body of a well-formed BEACON (R26, R28): state, primary key, fill. Epoch, sequence and member count are not used (R58). -/
def readBeacon (f : Frame) (_sender : Station) : Option (PackPhase × Word64 × Nat) :=
  if broadcastForm f && f.body.length = 23 && fieldAt f.body 21 2 ≤ 4096 then
    (packPhase (fieldAt f.body 8 1)).map (·, BitVec.ofNat 64 (fieldAt f.body 9 8), fieldAt f.body 17 4)
  else none

/-- A delimited unit of bytes as a kind and a frame, if it has the nine bytes of a header and check (R24, R27). -/
def splitFrame (bytes : List Byte) : Option (Byte × Frame) :=
  if 9 ≤ bytes.length then
    some (BitVec.ofNat 8 (fieldAt bytes 0 1),
      { sender := BitVec.ofNat 8 (fieldAt bytes 1 1), target := BitVec.ofNat 8 (fieldAt bytes 2 1),
        bodyLength := BitVec.ofNat 16 (fieldAt bytes 3 2), body := (bytes.drop 5).take (bytes.length - 9),
        check := BitVec.ofNat 32 (fieldAt bytes (bytes.length - 4) 4) })
  else none

/-! ### Drain-port messages -/

/-- The bytes of a message to the mover (R161). -/
def DrainMessage.bytes : DrainMessage → List Byte
  | .packStart st epoch seq limit key time =>
    [0x01#8, stationByte st] ++ le 4 epoch.toNat ++ le 4 seq.toNat ++ le 2 limit ++ le 8 key.toNat ++ le 8 time.toNat
  | .segment st epoch seq number cells =>
    [0x02#8, stationByte st] ++ le 4 epoch.toNat ++ le 4 seq.toNat ++ le 4 number ++ cells
  | .packEnd st epoch seq length members =>
    [0x03#8, stationByte st] ++ le 4 epoch.toNat ++ le 4 seq.toNat ++ le 4 length ++ le 2 members
  | .abandon st epoch seq stored =>
    [0x04#8, stationByte st] ++ le 4 epoch.toNat ++ le 4 seq.toNat ++ le 4 stored

/-- The fields of a STORED, if its length is right (R162). -/
def readStored (fields : List Byte) : Option StoredBody :=
  if fields.length = 12 then some ⟨ticketAt fields 0, ticketAt fields 4, ticketAt fields 8⟩ else none

/-- The fields of a FAULT, if its length and reason are right (R162). -/
def readFault (fields : List Byte) : Option FaultBody :=
  if fields.length = 9 then
    match fieldAt fields 8 1 with
    | 1 => some ⟨ticketAt fields 0, ticketAt fields 4, .media⟩
    | 2 => some ⟨ticketAt fields 0, ticketAt fields 4, .offline⟩
    | _ => none
  else none

/-! ### The configuration record -/

/-- A value set to the nearest limit of its range (R199). -/
def clamp (lo hi n : Nat) : Nat := max lo (min hi n)

/-- The configuration record a CONFIGURE carries, with the values as taken (R199). -/
def readConfig (b : List Byte) : ConfigRecord where
  epoch := ticketAt b 0
  baseTime := BitVec.ofNat 64 (fieldAt b 4 8)
  rotation := clamp 0 63 (fieldAt b 12 1)
  keyMask := BitVec.ofNat 64 (fieldAt b 13 8)
  packLimit := clamp 32 16384 (fieldAt b 21 2)
  closeMargin := fieldAt b 23 2
  strayAge := clamp 0 3600 (fieldAt b 25 2)
  admitFloor := clamp 0 1023 (fieldAt b 27 2)
  beaconSecs := clamp 1 60 (fieldAt b 29 1)
  claimTimeout := clamp 10 10000 (fieldAt b 30 2)
  pendingMax := clamp 1 8 (fieldAt b 32 1)
  fetchTimeout := clamp 10 10000 (fieldAt b 33 2)
  fetchSlots := clamp 1 4 (fieldAt b 35 1)
  packAgeLimit := clamp 10 86400 (fieldAt b 36 4)
  drainTimeout := clamp 100 60000 (fieldAt b 40 2)
  purge := 1 ≤ fieldAt b 42 1

/-- The 43 bytes of a configuration record (R199). -/
def configBytes (c : ConfigRecord) : List Byte :=
  le 4 c.epoch.toNat ++ le 8 c.baseTime.toNat ++ le 1 c.rotation ++ le 8 c.keyMask.toNat ++ le 2 c.packLimit
    ++ le 2 c.closeMargin ++ le 2 c.strayAge ++ le 2 c.admitFloor ++ le 1 c.beaconSecs ++ le 2 c.claimTimeout
    ++ le 1 c.pendingMax ++ le 2 c.fetchTimeout ++ le 1 c.fetchSlots ++ le 4 c.packAgeLimit ++ le 2 c.drainTimeout
    ++ [flagByte c.purge]

/-- A run of `len` ones from bit `lo` up. -/
def onesRun (lo len : Nat) : Word64 := BitVec.ofNat 64 ((2 ^ len - 1) * 2 ^ lo)

/-- Whether a key mask is valid (R200): its ones are one run of consecutive bits within bit 0 to bit 63, and it is not zero. -/
def maskValid (m : Word64) : Bool :=
  (List.range 64).any fun lo => (List.range (64 - lo)).any fun n => m = onesRun lo (n + 1)

/-! ### Management writes -/

/-- The command codes (R196). -/
def commandCodes : List Nat := [0x01, 0x02, 0x03, 0x10, 0x11, 0x20, 0x21, 0x22, 0x23, 0x30, 0x3F]

/-- The status byte of a response (R196). -/
def Status.code : Status → Byte
  | .done => 0x00
  | .wrongState => 0x01
  | .badMask => 0x02
  | .empty => 0x03
  | .unknown => 0x04
  | .short => 0x05
  | .busy => 0x06

/-- The bytes of a response: status, length, data (R195). -/
def responseBytes (st : Status) (data : List Byte) : List Byte := [st.code] ++ le 1 data.length ++ data

/-- The first n bytes a read returns (R195): the response, then zeros. -/
def readOut (n : Nat) (bs : List Byte) : List Byte := (padTo n bs).take n

end Sys2Proof.Machine
end

