-- ==== Sys2Proof/Machine/LinkInterface.lean ====
section
/-! DEFINITION. LIF (chapter 2): the transmit arbiter, the events of the medium, and the settling of a step: the events its own changes
bring about at the arbiter, the selector and the run state. -/

namespace Sys2Proof.Machine

/-! ### The transmit arbiter -/

/-- A frame is placed in the holder with a refusal count of 0 (R35). -/
def State.hold (s : State) (bytes : List Byte) : State := s.withLif { s.lif with holder := some ⟨bytes, 0⟩ }

/-- The release list's front record is taken (R188). -/
def State.takeRelease (s : State) (r : Release) (rest : List Release) : State :=
  ((s.withAru { s.aru with releases := rest }).bump .releasesSent).hold (releaseFrame s.lif.station r)

/-- The fetch engine's front item is taken (R126). -/
def State.takeFetchItem (s : State) (i : Fin 4) (rest : List (Fin 4)) : State :=
  let s := s.withFen { s.fen with items := rest }
  match s.fen.slots[i] with
  | some x =>
    let s := s.setFetch i (some { x with phase := .receiving (s.now + s.mgt.config.fetchTimeout) })
    (s.bump .fetchesSent).hold (fetchFrame s.lif.station x.pair)
  | none => s

/-- The sequence a CLAIM carries: that of the slot its entry is bound to (R80). -/
def State.claimSeq (s : State) (c : Claim) : Word32 :=
  match c.slot with
  | some id => (s.slot id).seq
  | none => 0

/-- The selector's WAITING claim is taken (R80): it becomes SENT, and the selector is woken. -/
def State.takeClaim (s : State) (c : Claim) : State :=
  let deadline := s.now + s.mgt.config.claimTimeout
  let t := s.withSel { s.sel with claims := s.sel.claims.map fun d =>
    if d.isWaiting && d.file.pair = c.file.pair then { d with phase := .sent deadline } else d }
  ((t.bump .claimsSent).hold (claimFrame s.lif.station c.file.pair (s.claimSeq c))).wakeUp

/-- The peer view's front item is taken (R63). -/
def State.takeBeacon (s : State) (x : BeaconItem) (rest : List BeaconItem) : State :=
  let s := s.withPvw { s.pvw with items := rest }
  (s.hold (beaconFrame s.lif.station x)).beaconTaken x

/-- The arbiter's choice for an EMPTY holder (R36, R37): the release list, then the fetch engine, then, in RUN and QUIESCING, the
selector and the peer view. -/
def State.arbiterChoice (s : State) : State :=
  match s.aru.releases, s.fen.items with
  | r :: rest, _ => s.takeRelease r rest
  | [], i :: rest => s.takeFetchItem i rest
  | [], [] =>
    if s.mgt.run = .run ∨ s.mgt.run = .quiescing then
      match s.sel.claims.find? Claim.isWaiting, s.pvw.items with
      | some c, _ => s.takeClaim c
      | none, x :: rest => s.takeBeacon x rest
      | none, [] => s
    else s

/-- The arbiter chooses when the holder is EMPTY, in every run state but SELFTEST (R36, R37). -/
def State.arbitrate (s : State) : State :=
  if s.mgt.run = .selftest ∨ s.lif.holder.isSome then s else s.arbiterChoice

/-! ### The settling of a step -/

/-- The QUIET condition (R202): QUIESCING, both slots FREE, the release list empty. -/
def State.quietNow (s : State) : Bool :=
  s.mgt.run = .quiescing && s.pkb.slotA.state = .free && s.pkb.slotB.state = .free && s.aru.releases.isEmpty

/-- Entry to QUIET, when its condition holds (R66, R202). -/
def State.testQuiet (s : State) : State :=
  if s.quietNow then (s.withMgt { s.mgt with run := .quiet }).silenceBeacons else s

/-- What a command's own event brings about within its step, in this order (log entry 2): the arbiter, the selector's round, the
arbiter again for a claim just admitted, the round that its taking wakes, and the QUIET test. -/
def State.settle (s : State) : State :=
  s.arbitrate.roundIfWoken.arbitrate.roundIfWoken.testQuiet

/-! ### The medium -/

/-- The medium takes the frame in the holder (R34). -/
def State.mediumTakes (s : State) : State :=
  match s.lif.holder with
  | some h =>
    (((s.withLif { s.lif with holder := none }).emit (.frame h.bytes)).bump .framesSent).settle
  | none => s

/-- The medium refuses the frame in the holder (R34): at the 16th refusal it is dropped. -/
def State.mediumRefuses (s : State) : State :=
  match s.lif.holder with
  | some h =>
    if h.refusals + 1 < 16 then s.withLif { s.lif with holder := some { h with refusals := h.refusals + 1 } }
    else ((s.withLif { s.lif with holder := none }).bump .transmitDrops).settle
  | none => s

/-! ### Reception -/

/-- The reception of a frame (R27-R31): not taken in SELFTEST; counted once as a check error, malformed, this station's own number, or
accepted; an accepted frame is handed on with its sender and content. -/
def State.receive {α : Type} (s : State) (kind : Byte) (f : Frame) (read : Frame → Station → Option α)
    (handOn : State → Station → α → State) : State :=
  if s.mgt.run = .selftest then s
  else if !passesCheck kind f then s.bump .checkErrors
  else
    match stationOf f.sender with
    | none => s.bump .malformedFrames
    | some sender =>
      match read f sender with
      | none => s.bump .malformedFrames
      | some x => if sender = s.lif.station then s.bump .ownNumberFrames else handOn (s.bump .framesAccepted) sender x

/-- A BEACON reaches the peer view (R59, R67): its sender's entry is written, the selector is notified of a changed held key, and the
yield check runs for an OPEN one. -/
def State.beaconArrives (s : State) (sender : Station) (phase : PackPhase) (key : Word64) (fill : Nat) : State :=
  let before := (s.peer? sender).bind s.heldKey
  let x : PeerEntry := ⟨sender, phase, key, fill, s.mgt.clock⟩
  let s := (s.withPvw { s.pvw with table := writePeer x s.pvw.table }).bump .beaconsHeard
  let s := if s.heldKey x = before then s else s.wakeUp
  if phase = .opened then
    match s.accepting with
    | some id => s.yieldCheck id [x]
    | none => s
  else s

/-- An OFFER frame arrives (R43). -/
def State.receiveOffer (s : State) (f : Frame) : State :=
  s.receive 0x21#8 f readOffer fun s _ x => (s.offerArrives x).settle

/-- A WITHDRAW frame arrives (R112). -/
def State.receiveWithdraw (s : State) (f : Frame) : State :=
  s.receive 0x22#8 f readWithdraw fun s sender t => (s.withdrawArrives ⟨sender, t⟩).settle

/-- A GRANT frame arrives (R31, R82). -/
def State.receiveGrant (s : State) (f : Frame) : State :=
  s.receive 0x23#8 f readGrant fun s sender x =>
    (if x.2 = s.lif.station then s.grantedHere ⟨sender, x.1⟩ else s.grantedElsewhere ⟨sender, x.1⟩).settle

/-- A REFUSE frame arrives (R31, R88). -/
def State.receiveRefuse (s : State) (f : Frame) : State :=
  s.receive 0x24#8 f readRefuse fun s sender x =>
    (if x.2.1 = s.lif.station then s.refusedHere ⟨sender, x.1⟩ x.2.2 else s.refusedElsewhere ⟨sender, x.1⟩ x.2.2).settle

/-- A DATA frame arrives (R31, R32, R128). -/
def State.receiveData (s : State) (f : Frame) : State :=
  s.receive 0x25#8 f readData fun s sender x =>
    if x.1 = s.lif.station then (s.dataArrives sender x.2).settle else s.bump .framesPassedOver

/-- A CLAIM frame arrives (R51). -/
def State.receiveClaim (s : State) (f : Frame) : State :=
  s.receive 0x41#8 f readClaim fun s _ p => s.claimHeard p

/-- A FETCH frame arrives: passed over (R32). -/
def State.receiveFetch (s : State) (f : Frame) : State :=
  s.receive 0x42#8 f readFetch fun s _ _ => s.bump .framesPassedOver

/-- A RELEASE frame arrives: passed over (R32). -/
def State.receiveRelease (s : State) (f : Frame) : State :=
  s.receive 0x43#8 f readRelease fun s _ _ => s.bump .framesPassedOver

/-- A BEACON frame arrives (R59). -/
def State.receiveBeacon (s : State) (f : Frame) : State :=
  s.receive 0x44#8 f readBeacon fun s sender x => (s.beaconArrives sender x.1 x.2.1 x.2.2).settle

/-- A frame of any kind arrives (R25): a kind the table does not list is malformed (R28). -/
def State.receiveAny (s : State) (kind : Byte) (f : Frame) : State :=
  if kind = 0x21#8 then s.receiveOffer f
  else if kind = 0x22#8 then s.receiveWithdraw f
  else if kind = 0x23#8 then s.receiveGrant f
  else if kind = 0x24#8 then s.receiveRefuse f
  else if kind = 0x25#8 then s.receiveData f
  else if kind = 0x41#8 then s.receiveClaim f
  else if kind = 0x42#8 then s.receiveFetch f
  else if kind = 0x43#8 then s.receiveRelease f
  else if kind = 0x44#8 then s.receiveBeacon f
  else s.receive kind f (fun _ _ => (none : Option Unit)) fun s _ _ => s

/-- A delimited unit of bytes arrives (R27): one too short for a frame fails the length test. -/
def State.receiveBytes (s : State) (bytes : List Byte) : State :=
  match splitFrame bytes with
  | some (kind, f) => s.receiveAny kind f
  | none => if s.mgt.run = .selftest then s else s.bump .checkErrors

/-! ### The drain port's receive side -/

/-- A READY (R164). -/
def State.receiveReady (s : State) (fields : List Byte) : State :=
  if fields.isEmpty then
    match s.drn.port with
    | .up => s.bump .repeatedReady
    | .down => ((s.withDrn { s.drn with port := .up }).bump .portUp).settle
  else s.bump .malformedDrainMessages

/-- A STORED (R169). -/
def State.receiveStored (s : State) (fields : List Byte) : State :=
  match readStored fields with
  | none => s.bump .malformedDrainMessages
  | some b =>
    match s.storedMatch b with
    | some (c, w, rest) => (s.acceptStored c w rest).settle
    | none => s.bump .strayStored

/-- A FAULT (R171). -/
def State.receiveFault (s : State) (fields : List Byte) : State :=
  match readFault fields with
  | none => s.bump .malformedDrainMessages
  | some b =>
    match s.faultMatch b with
    | some c => (s.acceptFault c b.reason).settle
    | none => s.bump .strayFaults

/-- A message of any kind from the mover (R162). -/
def State.receiveMessage (s : State) (message : List Byte) : State :=
  match message with
  | k :: fields =>
    if k = 0x81#8 then s.receiveStored fields
    else if k = 0x82#8 then s.receiveFault fields
    else if k = 0x83#8 then s.receiveReady fields
    else s.bump .malformedDrainMessages
  | [] => s.bump .malformedDrainMessages

end Sys2Proof.Machine
end

