-- ==== Sys2Proof/Machine/Flags.lean ====
section
/-! DEFINITION. What the part shows of itself: the attention output (R206), the management address (R195), the identity and status pages
(R197), the counter banks (R198) and pack records as bytes (R205). -/

namespace Sys2Proof.Machine

/-- The attention output (R206): asserted while a record is queued or the run state is HALTED, and left asserted by a RESTART that goes to CONFIG
and straight back to HALTED, until it is there. -/
def State.attention (s : State) : Bool := !s.mgt.records.isEmpty || s.mgt.run = .halted || s.mgt.attentionHeld

/-- The 7-bit address the management port answers at (R195): 0x58 plus the two low strap pins. -/
def State.managementAddress (s : State) : Nat := 0x58 + s.lif.station.val % 4

/-- The code of a run state (R197). -/
def RunState.code : RunState → Byte
  | .selftest => 0
  | .config => 1
  | .run => 2
  | .quiescing => 3
  | .quiet => 4
  | .halted => 5

/-- The code of a slot state (R197). ABORTED is never reported: a slot that passes through it is FREE by the end of its abort. -/
def SlotState.code : SlotState → Byte
  | .free | .aborted => 0
  | .forming => 1
  | .opened => 2
  | .closing => 3
  | .closed => 4
  | .ending => 5
  | .carrying => 6

/-- The code of a port state (R197). -/
def PortState.code : PortState → Byte
  | .down => 0
  | .up => 1

/-- The identity page, 28 bytes (R197). -/
def State.identityPage (s : State) : List Byte :=
  [0x4C#8, 0x65#8, 0x72#8, 0x77#8, 0x61#8, 0x6C#8, 0x64#8, 0x00#8] ++ [0x50#8, 0x4B#8, 0x34#8, 0x30#8, 0x38#8] ++ [0x43#8]
    ++ le 1 1 ++ le 1 s.lif.station.val ++ le 1 64 ++ le 1 s.inService ++ le 2 1024 ++ le 1 8 ++ le 1 4 ++ le 2 4096
    ++ le 1 2 ++ le 1 32 ++ le 2 8200

/-- The status page, 30 bytes (R197). -/
def State.statusPage (s : State) : List Byte :=
  [s.mgt.run.code, s.pkb.slotA.state.code, s.pkb.slotB.state.code]
    ++ le 4 s.pkb.slotA.e ++ le 2 s.pkb.slotA.members.length ++ le 4 s.pkb.slotB.e ++ le 2 s.pkb.slotB.members.length
    ++ le 1 (s.bufferCount .free) ++ le 1 (s.bufferCount .filling) ++ le 1 (s.bufferCount .ready)
    ++ le 1 (s.bufferCount .draining) ++ le 1 (s.bufferCount .held) ++ le 1 (s.bufferCount .retired)
    ++ le 1 s.spl.promised ++ [s.drn.port.code] ++ le 1 s.drn.window.length ++ le 2 s.oft.candidates.length
    ++ le 1 s.sel.claims.length ++ le 2 s.aru.releases.length ++ le 1 s.mgt.records.length

/-- Where a counter bank starts in the order of the counters, and how many it holds (R198). -/
def bankSpan : Nat → Nat × Nat
  | 0 => (0, 7)
  | 1 => (7, 5)
  | 2 => (12, 3)
  | 3 => (15, 12)
  | 4 => (27, 11)
  | 5 => (38, 11)
  | 6 => (49, 4)
  | 7 => (53, 13)
  | 8 => (66, 13)
  | 9 => (79, 5)
  | _ => (84, 0)

/-- The counters of a bank, four bytes each (R198). -/
def State.bankBytes (s : State) (bank : Nat) : List Byte :=
  ((s.counters.toList.drop (bankSpan bank).1).take (bankSpan bank).2).flatMap fun n => le 4 n.toNat

/-- The outcome byte of a record (R205): 1 ENDED, 2 ABORTED. -/
def PackOutcome.code : PackOutcome → Byte
  | .ended => 1
  | .aborted _ => 2

/-- The cause byte of a record (R205). -/
def PackOutcome.causeCode : PackOutcome → Byte
  | .ended => 0
  | .aborted .media => 1
  | .aborted .offline => 2
  | .aborted .timeout => 3
  | .aborted .damage => 4
  | .aborted .restart => 5
  | .aborted .halt => 6

/-- A pack record, 47 bytes (R205). -/
def PackRecord.bytes (r : PackRecord) : List Byte :=
  [stationByte r.station] ++ le 4 r.epoch.toNat ++ le 4 r.seq.toNat ++ [r.outcome.code, r.outcome.causeCode]
    ++ le 4 r.segments ++ le 2 r.members ++ le 2 r.voids ++ le 2 r.carriedOut ++ le 2 r.released ++ le 8 r.key.toNat
    ++ le 8 r.openTime.toNat ++ le 8 r.closeTime.toNat

end Sys2Proof.Machine
end

