-- ==== Sys2Proof/Machine/Management.lean ====
section
/-! DEFINITION. MGT (chapter 11): how a command is judged and answered, what each command does, and the changes of run state. -/

namespace Sys2Proof.Machine

/-! ### The exchange -/

/-- The counter an answer raises (R207). -/
def Status.counter : Status → Ctr
  | .done | .empty => .commandsDone
  | .wrongState | .badMask | .unknown | .short => .commandsRefused
  | .busy => .commandsBusy

/-- Whether the held response has not been read (R195). -/
def State.responseUnread (s : State) : Bool :=
  match s.mgt.response with
  | some r => !r.read
  | none => false

/-- A command is answered (R195): its response replaces the held one. -/
def State.answer (s : State) (st : Status) (data : List Byte) : State :=
  let s := if s.responseUnread then s.bump .responsesReplacedUnread else s
  (s.withMgt { s.mgt with response := some ⟨st, data, false⟩ }).bump st.counter

/-- Whether a command other than STATUS is answered BUSY (R196, row 1). -/
def State.isBusy (s : State) : Bool := s.mgt.run = .selftest || s.mgt.restarting

/-- A command other than STATUS is taken (R196): BUSY, SHORT, UNKNOWN for a byte outside its range, or WRONG-STATE, by the first that
applies; else it acts. -/
def State.command (s : State) (short outOfRange : Bool) (allowed : RunState → Bool) (act : State → State) : State :=
  if s.isBusy then s.answer .busy []
  else if short then s.answer .short []
  else if outOfRange then s.answer .unknown []
  else if !allowed s.mgt.run then s.answer .wrongState []
  else act s

/-- Allowed in every run state (R196). -/
def anyState (_ : RunState) : Bool := true

/-! ### Reading -/

/-- IDENTIFY is taken (R197). -/
def State.takeIdentify (s : State) : State :=
  s.command false false anyState fun s => s.answer .done s.identityPage

/-- STATUS is taken, in any run state (R196, R197). -/
def State.takeStatus (s : State) : State := s.answer .done s.statusPage

/-- COUNTERS is taken (R198). -/
def State.takeCounters (s : State) (params : List Byte) : State :=
  s.command (params.length < 1) (9 < fieldAt params 0 1) anyState fun s => s.answer .done (s.bankBytes (fieldAt params 0 1))

/-! ### Configuring and starting -/

/-- An accepted CONFIGURE (R199, R200): the record is replaced, and a different epoch sets the next sequence to 0. -/
def State.configured (s : State) (c : ConfigRecord) : State :=
  let s := if c.epoch = s.mgt.config.epoch then s else s.withPkb { s.pkb with nextSeq := 0 }
  s.withMgt { s.mgt with config := c }

/-- CONFIGURE is taken (R199, R200). -/
def State.takeConfigure (s : State) (params : List Byte) : State :=
  s.command (params.length < 43) false (fun r => r = .config) fun s =>
    let c := readConfig params
    if maskValid c.keyMask then (s.configured c).answer .done (configBytes c) else s.answer .badMask []

/-- What START does (R201): the record is frozen, the clock starts, the candidates are keyed, the peer view's pending times become 0, the
fetch slots are FREE, the run state is RUN and the sweeps start. -/
def State.started (s : State) : State :=
  let s := s.withMgt { s.mgt with frozen := true, clock := some 0, run := .run }
  let s := s.setCandidates (s.oft.candidates.map (Candidate.atStart s.mgt.config))
  let s := s.withPvw
    { s.pvw with
      table := s.pvw.table.map fun x => { x with lastHeard := some (x.lastHeard.getD 0) }
      sweepAt := some 1000 }
  let s := s.withFen { s.fen with slots := Vector.replicate 4 none, items := [] }
  (s.withSel { s.sel with sweepAt := some 1000 }).wakeUp

/-- START is taken (R201). -/
def State.takeStart (s : State) : State :=
  s.command false false (fun r => r = .config) fun s =>
    if s.inService < 24 then s.answer .wrongState [] else (s.started.answer .done []).settle

/-! ### Run modes -/

/-- CLOSE-NOW is taken (R203). -/
def State.takeCloseNow (s : State) : State :=
  s.command false false (fun r => r = .run) fun s => ((s.closeAccepting .command).answer .done []).settle

/-- QUIESCE is taken (R94, R203). -/
def State.takeQuiesce (s : State) : State :=
  s.command false false (fun r => r = .run) fun s =>
    let s := (s.withMgt { s.mgt with run := .quiescing }).withSel { s.sel with sweepAt := none }
    ((s.closeAccepting .quiesce).answer .done []).settle

/-- RESUME is taken (R94, R203): the sweep timer restarts at the next whole second. -/
def State.takeResume (s : State) : State :=
  s.command false false (fun r => r = .quiescing || r = .quiet) fun s =>
    let s := (s.withMgt { s.mgt with run := .run }).withSel { s.sel with sweepAt := some ((s.now / 1000 + 1) * 1000) }
    (s.wakeUp.answer .done []).settle

/-! ### Records -/

/-- TAKE-RECORD is taken (R205). -/
def State.takeRecord (s : State) : State :=
  s.command false false anyState fun s =>
    match s.mgt.records with
    | [] => s.answer .empty []
    | r :: rest => (((s.withMgt { s.mgt with records := rest }).wakeUp).answer .done r.bytes).settle

/-! ### RESTART and HALTED -/

/-- What RESTART does to the candidate list (R57). -/
def State.restartCandidates (s : State) : State :=
  if s.mgt.config.purge then s.setCandidates [] else s.setCandidates (s.oft.candidates.map Candidate.atRestart)

/-- Whether a RESTART goes to CONFIG and straight back to HALTED (R204, R206): it is taken in HALTED, or on the way back there, with fewer than
24 buffers in service. -/
def State.returnsToHalted (s : State) : Bool := s.inService < 24 && (s.mgt.run = .halted || s.mgt.attentionHeld)

/-- What RESTART does (R204): the run state becomes CONFIG, everything is aborted with cause RESTART, the clock stops, the configuration is
unfrozen and kept, and every block takes the state its chapter gives. -/
def State.restarted (s : State) : State :=
  let s := s.withMgt { s.mgt with run := .config, attentionHeld := s.returnsToHalted }
  let s := s.abortEverything .restart
  let s := s.withMgt { s.mgt with frozen := false, clock := none, restarting := true }
  let s := s.restartCandidates
  s.withPvw { s.pvw with
    table := s.pvw.table.map fun x => { x with lastHeard := none }
    sweepAt := none }

/-- RESTART is taken (R204). -/
def State.takeRestart (s : State) : State :=
  s.command false false (fun r => r ≠ .selftest) fun s => (s.restarted.answer .done []).settle

/-- Whether the pool's report that fewer than 24 buffers are in service takes the run state to HALTED (R154): in any state but SELFTEST, and
once. -/
def State.haltDue (s : State) : Bool := s.inService < 24 && s.mgt.run ≠ .selftest && s.mgt.run ≠ .halted

/-- Entry to HALTED (R204). -/
def State.enterHalted (s : State) : State :=
  let s := (s.withMgt { s.mgt with run := .halted, attentionHeld := false }).bump .halts
  (s.abortEverything .halt).settle

/-! ### Writes and reads of the port -/

/-- RUN-MODE is taken (R203): a mode byte 1, 2 or 3 is judged as its short form. -/
def State.takeRunMode (s : State) (params : List Byte) : State :=
  if s.isBusy then s.answer .busy []
  else if params.length < 1 then s.answer .short []
  else if fieldAt params 0 1 = 1 then s.takeCloseNow
  else if fieldAt params 0 1 = 2 then s.takeQuiesce
  else if fieldAt params 0 1 = 3 then s.takeResume
  else s.answer .unknown []

/-- A run-mode command is taken in the form it was written in (R203): RUN-MODE brings its mode byte first. -/
def State.takeMode (s : State) (form : ModeForm) (mode : Byte) (params : List Byte) (short : State → State) : State :=
  match form with
  | .short => short s
  | .runMode => s.takeRunMode (mode :: params)

/-- A write of the port ends (R195, R196): a write of no bytes takes no command; an unknown code is answered UNKNOWN. -/
def State.takeWrite (s : State) (write : List Byte) : State :=
  match write with
  | [] => s
  | code :: params =>
    if code = 0x02#8 then s.takeStatus
    else if s.isBusy then s.answer .busy []
    else if code = 0x01#8 then s.takeIdentify
    else if code = 0x03#8 then s.takeCounters params
    else if code = 0x10#8 then s.takeConfigure params
    else if code = 0x11#8 then s.takeStart
    else if code = 0x20#8 then s.takeRunMode params
    else if code = 0x21#8 then s.takeCloseNow
    else if code = 0x22#8 then s.takeQuiesce
    else if code = 0x23#8 then s.takeResume
    else if code = 0x30#8 then s.takeRecord
    else if code = 0x3F#8 then s.takeRestart
    else s.answer .unknown []

/-- A read of the port (R195): the held response's bytes, or BUSY with length 0 when none is held; the response stays held, now read, and
a RESTART in progress ends (R204). -/
def State.readResponse (s : State) (n : Nat) : State :=
  let bytes := match s.mgt.response with
    | some r => responseBytes r.status r.data
    | none => responseBytes .busy []
  let s := s.withMgt { s.mgt with response := s.mgt.response.map fun r => { r with read := true }, restarting := false }
  s.emit (.readBytes (readOut n bytes))

end Sys2Proof.Machine
end

