-- ==== Sys2Proof/Machine/Timers.lean ====
section
/-! DEFINITION. Hard reset and the self-test (R39, R155), and the expiries: what each does when the clock has reached it, and which are due at
a clock reading. -/

namespace Sys2Proof.Machine

/-! ### Hard reset and self-test -/

/-- A hard reset (R39): every block as after reset, the station number from the straps. The buffer memory keeps its contents until the
self-test writes them (log entry 6), and the queue of waiting commands is not the part's. -/
def State.hardReset (s : State) (straps : Station) : State :=
  { State.reset with lif := { station := straps }, mem := s.mem, pending := s.pending }

/-- Whether a pass of the self-test read back a byte of the buffer that differs from the pattern (R155). -/
def readsBackBad (pattern : Byte) (reads : List Host.Cell) : Bool :=
  reads.any fun c => c.1 < bufferBytes && c.2 ≠ pattern

/-- The self-test of one buffer (R155): 0xAA stays in every byte; a buffer that read back differently is RETIRED and counted. -/
def State.testBuffer (s : State) (i : Fin 64) (read55 readAA : List Host.Cell) : State :=
  let s := s.withMem (s.mem.clear (cellAddr i 0) bufferBytes)
  if readsBackBad 0x55#8 read55 || readsBackBad 0xAA#8 readAA then
    (s.setBuffer i ⟨.retired, none⟩).bump .selfTestRetirements
  else s

/-- BUFFER_SELF_TEST (R155): the next buffer is tested; after buffer 63 the run state goes to CONFIG (R202). Outside SELFTEST no test
runs. -/
def State.selfTest (s : State) (read55 readAA : List Host.Cell) : State :=
  if h : s.mgt.run = .selftest ∧ s.spl.tested < 64 then
    let t := s.testBuffer ⟨s.spl.tested, h.2⟩ read55 readAA
    let t := t.withSpl { t.spl with tested := s.spl.tested + 1 }
    if s.spl.tested = 63 then t.withMgt { t.mgt with run := .config } else t
  else s

/-! ### Expiries -/

/-- CONTEST_EXPIRY of a pair (R52). -/
def State.contestTimer (s : State) (p : FilePair) : State :=
  if s.due ((s.candidate? p).bind Candidate.contestEnd) then (s.contestExpires p).settle else s

/-- PEER_SWEEP (R61): at a whole second; the next one is due a second later. -/
def State.peerSweepTimer (s : State) : State :=
  if s.due s.pvw.sweepAt then
    (s.withPvw { s.pvw with sweepAt := some ((s.now / 1000 + 1) * 1000) }).sweepPeers.settle
  else s

/-- SWEEP_TIMER (R74): at a whole second in RUN; it wakes the selector. -/
def State.selectorTimer (s : State) : State :=
  if s.due s.sel.sweepAt && s.mgt.run = .run then
    ((s.withSel { s.sel with sweepAt := some ((s.now / 1000 + 1) * 1000) }).wakeUp).settle
  else s

/-- BEACON_TIMER (R65): a trigger for the accepting pack; the timer stays stopped until the item is taken. -/
def State.beaconExpires (s : State) : State :=
  if s.due s.pvw.timer then s.stopBeaconTimer.triggerAccepting.settle else s

/-- CLAIM_TIMEOUT of a pair (R90). -/
def State.claimTimer (s : State) (p : FilePair) : State :=
  if s.due (s.claimDeadline p) then (s.endClaimOf p .claimTimeouts).settle else s

/-- The age deadline of the accepting pack while it is OPEN (R109). -/
def State.ageDeadlineNow (s : State) : Option Nat :=
  match s.accepting with
  | some id => if (s.slot id).state = .opened then (s.slot id).ageDeadline else none
  | none => none

/-- AGE_DEADLINE (R109). -/
def State.ageTimer (s : State) : State :=
  if s.due s.ageDeadlineNow then (s.closeAccepting .age).settle else s

/-- FETCH_TIMEOUT of a fetch slot (R134). -/
def State.fetchTimer (s : State) (i : Fin 4) : State :=
  if s.due (s.fetchDeadline i) then (s.fetchTimesOut i).settle else s

/-- DRAIN_TIMEOUT (R170). -/
def State.drainTimer (s : State) : State :=
  if s.due s.drn.deadline then s.drainTimesOut.settle else s

/-! ### The passing of time -/

/-- The commands of the timers that are due, in the order in which they are taken (log entry 1). -/
def State.dueCommands (s : State) : List Instr :=
  List.flatten
    [ if s.due s.pvw.sweepAt then [Instr.peerSweep] else [],
      if s.due s.sel.sweepAt && s.mgt.run = .run then [Instr.sweepTimer] else [],
      (s.oft.candidates.filter fun c => s.due c.contestEnd).map fun c =>
        Instr.contestExpiry c.file.pair.source c.file.pair.ticket,
      (s.sel.claims.filter fun c => s.due (s.claimDeadline c.file.pair)).map fun c =>
        Instr.claimTimeout c.file.pair.source c.file.pair.ticket,
      ((List.finRange 4).filter fun i => s.due (s.fetchDeadline i)).map fun i => Instr.fetchTimeout i,
      if s.due s.ageDeadlineNow then [Instr.ageDeadline] else [],
      if s.due s.pvw.timer then [Instr.beaconTimer] else [],
      if s.due s.drn.deadline then [Instr.drainTimeout] else [] ]

/-- One millisecond passes while the clock runs, and the timers then due become the next commands (log entry 1). -/
def State.tick (s : State) : State :=
  match s.mgt.clock with
  | some t =>
    let s := s.withMgt { s.mgt with clock := some (t + 1) }
    s.withPending s.dueCommands
  | none => s

/-- What the part does when no command waits (log entries 1 and 32): the pool's report that the part is short of buffers becomes the next
command; else the next-message choice makes its next issue (R165); else a millisecond passes. -/
def State.idle (s : State) : State :=
  if s.haltDue then s.withPending [.entryToHalted]
  else
    match s.begin.nextIssue with
    | some t => t.settle
    | none => s.tick

end Sys2Proof.Machine
end

