-- ==== Sys2Proof/Machine/DrainCommands.lean ====
section
/-! DEFINITION. The commands of the drain port: the messages of the mover (R162). -/

namespace Sys2Proof.Machine

/-- READY (R164). -/
def execReady (fields : List Byte) (s : State) : Host.Outcome State Fault Refusal :=
  .next (s.begin.receiveReady fields)

/-- STORED (R169). -/
def execStored (fields : List Byte) (s : State) : Host.Outcome State Fault Refusal :=
  .next (s.begin.receiveStored fields)

/-- FAULT (R171). -/
def execFault (fields : List Byte) (s : State) : Host.Outcome State Fault Refusal :=
  .next (s.begin.receiveFault fields)

/-- UNKNOWN_DRAIN_MESSAGE (R162). -/
def execUnknownDrainMessage (message : List Byte) (s : State) : Host.Outcome State Fault Refusal :=
  .next (s.begin.receiveMessage message)

end Sys2Proof.Machine
end

