-- ==== Sys2Proof/Machine/LinkCommands.lean ====
section
/-! DEFINITION. The commands of the staging link: the frames that arrive (chapter 2) and the medium's two answers to the frame in the
transmit holder (R34). -/

namespace Sys2Proof.Machine

/-- OFFER (R43-R47). -/
def execOffer (f : Frame) (s : State) : Host.Outcome State Fault Refusal :=
  .next (s.begin.receiveOffer f)

/-- WITHDRAW (R55, R89, R112-R114, R137, R138, R185). -/
def execWithdraw (f : Frame) (s : State) : Host.Outcome State Fault Refusal :=
  .next (s.begin.receiveWithdraw f)

/-- GRANT (R54, R82-R87). -/
def execGrant (f : Frame) (s : State) : Host.Outcome State Fault Refusal :=
  .next (s.begin.receiveGrant f)

/-- REFUSE (R54, R88). -/
def execRefuse (f : Frame) (s : State) : Host.Outcome State Fault Refusal :=
  .next (s.begin.receiveRefuse f)

/-- DATA (R32, R128-R133). -/
def execData (f : Frame) (s : State) : Host.Outcome State Fault Refusal :=
  .next (s.begin.receiveData f)

/-- CLAIM (R51). -/
def execClaim (f : Frame) (s : State) : Host.Outcome State Fault Refusal :=
  .next (s.begin.receiveClaim f)

/-- FETCH (R32). -/
def execFetch (f : Frame) (s : State) : Host.Outcome State Fault Refusal :=
  .next (s.begin.receiveFetch f)

/-- RELEASE (R32). -/
def execRelease (f : Frame) (s : State) : Host.Outcome State Fault Refusal :=
  .next (s.begin.receiveRelease f)

/-- BEACON (R59, R67). -/
def execBeacon (f : Frame) (s : State) : Host.Outcome State Fault Refusal :=
  .next (s.begin.receiveBeacon f)

/-- MEDIUM_TAKES_FRAME (R34, R36). -/
def execMediumTakesFrame (s : State) : Host.Outcome State Fault Refusal :=
  .next s.begin.mediumTakes

/-- MEDIUM_REFUSES_FRAME (R34). -/
def execMediumRefusesFrame (s : State) : Host.Outcome State Fault Refusal :=
  .next s.begin.mediumRefuses

/-- CHECK_ERROR_FRAME (R27). -/
def execCheckErrorFrame (bytes : List Byte) (s : State) : Host.Outcome State Fault Refusal :=
  .next (s.begin.receiveBytes bytes)

/-- UNKNOWN_KIND_FRAME (R28). -/
def execUnknownKindFrame (kind : Byte) (f : Frame) (s : State) : Host.Outcome State Fault Refusal :=
  .next (s.begin.receiveAny kind f)

end Sys2Proof.Machine
end

