-- ==== Sys2Proof/Machine/ManagementCommands.lean ====
section
/-! DEFINITION. The commands of the management port: its writes (R196) and its read (R195). Parameter bytes beyond those a command needs
are ignored. -/

namespace Sys2Proof.Machine

/-- IDENTIFY (R197). -/
def execIdentify (_params : List Byte) (s : State) : Host.Outcome State Fault Refusal :=
  .next s.begin.takeIdentify

/-- STATUS (R197). -/
def execStatus (_params : List Byte) (s : State) : Host.Outcome State Fault Refusal :=
  .next s.begin.takeStatus

/-- COUNTERS (R198). -/
def execCounters (params : List Byte) (s : State) : Host.Outcome State Fault Refusal :=
  .next (s.begin.takeCounters params)

/-- CONFIGURE (R199, R200). -/
def execConfigure (params : List Byte) (s : State) : Host.Outcome State Fault Refusal :=
  .next (s.begin.takeConfigure params)

/-- START (R201). -/
def execStart (_params : List Byte) (s : State) : Host.Outcome State Fault Refusal :=
  .next s.begin.takeStart

/-- CLOSE_NOW (R203), in either form. -/
def execCloseNow (form : ModeForm) (params : List Byte) (s : State) : Host.Outcome State Fault Refusal :=
  .next (s.begin.takeMode form 1 params State.takeCloseNow)

/-- QUIESCE (R203), in either form. -/
def execQuiesce (form : ModeForm) (params : List Byte) (s : State) : Host.Outcome State Fault Refusal :=
  .next (s.begin.takeMode form 2 params State.takeQuiesce)

/-- RESUME (R203), in either form. -/
def execResume (form : ModeForm) (params : List Byte) (s : State) : Host.Outcome State Fault Refusal :=
  .next (s.begin.takeMode form 3 params State.takeResume)

/-- TAKE_RECORD (R205). -/
def execTakeRecord (_params : List Byte) (s : State) : Host.Outcome State Fault Refusal :=
  .next s.begin.takeRecord

/-- RESTART (R204). -/
def execRestart (_params : List Byte) (s : State) : Host.Outcome State Fault Refusal :=
  .next s.begin.takeRestart

/-- UNKNOWN_COMMAND (R196): a whole write, judged by the bytes it carries. -/
def execUnknownCommand (write : List Byte) (s : State) : Host.Outcome State Fault Refusal :=
  .next (s.begin.takeWrite write)

/-- RESPONSE_READ (R195). -/
def execResponseRead (count : Nat) (s : State) : Host.Outcome State Fault Refusal :=
  .next (s.begin.readResponse count)

end Sys2Proof.Machine
end

