-- ==== Sys2Proof/Machine/ResetCommands.lean ====
section
/-! DEFINITION. The commands of power and of the pool: HARD_RESET, BUFFER_SELF_TEST and ENTRY_TO_HALTED. -/

namespace Sys2Proof.Machine

/-- HARD_RESET (R39, R57, R71, R96, R119, R142, R158, R175, R194, R204). -/
def execHardReset (straps : Station) (s : State) : Host.Outcome State Fault Refusal :=
  .next (s.hardReset straps)

/-- BUFFER_SELF_TEST (R155). -/
def execBufferSelfTest (read55 readAA : List Host.Cell) (s : State) : Host.Outcome State Fault Refusal :=
  .next (s.begin.selfTest read55 readAA)

/-- ENTRY_TO_HALTED (R154, R204): the pool's report, while it is due. -/
def execEntryToHalted (s : State) : Host.Outcome State Fault Refusal :=
  .next (if s.haltDue then s.begin.enterHalted else s.begin)

end Sys2Proof.Machine
end

