-- ==== Sys2Proof/Machine/TimerCommands.lean ====
section
/-! DEFINITION. The commands of time: the expiries the clock brings, and the completion of a carry copy. An expiry command before its
moment has no effect (log entry 23). -/

namespace Sys2Proof.Machine

/-- CONTEST_EXPIRY (R52). -/
def execContestExpiry (source : Station) (ticket : Word32) (s : State) : Host.Outcome State Fault Refusal :=
  .next (s.begin.contestTimer ⟨source, ticket⟩)

/-- PEER_SWEEP (R61). -/
def execPeerSweep (s : State) : Host.Outcome State Fault Refusal :=
  .next s.begin.peerSweepTimer

/-- SWEEP_TIMER (R74). -/
def execSweepTimer (s : State) : Host.Outcome State Fault Refusal :=
  .next s.begin.selectorTimer

/-- BEACON_TIMER (R65). -/
def execBeaconTimer (s : State) : Host.Outcome State Fault Refusal :=
  .next s.begin.beaconExpires

/-- CLAIM_TIMEOUT (R90). -/
def execClaimTimeout (source : Station) (ticket : Word32) (s : State) : Host.Outcome State Fault Refusal :=
  .next (s.begin.claimTimer ⟨source, ticket⟩)

/-- AGE_DEADLINE (R109). -/
def execAgeDeadline (s : State) : Host.Outcome State Fault Refusal :=
  .next s.begin.ageTimer

/-- FETCH_TIMEOUT (R134). -/
def execFetchTimeout (slot : Fin 4) (s : State) : Host.Outcome State Fault Refusal :=
  .next (s.begin.fetchTimer slot)

/-- DRAIN_TIMEOUT (R170). -/
def execDrainTimeout (s : State) : Host.Outcome State Fault Refusal :=
  .next s.begin.drainTimer

/-- COPY_COMPLETION (R184). -/
def execCopyCompletion (s : State) : Host.Outcome State Fault Refusal :=
  .next (if s.aru.copies.isEmpty then s.begin else s.begin.completeCopy.startCopies.settle)

end Sys2Proof.Machine
end

