-- ==== Sys2Proof/Machine/Dispatch.lean ====
section
/-! DEFINITION. The dispatch of commands to their meanings, one arm per row of the table. -/

namespace Sys2Proof.Machine

/-- The effect of a command on everything but the queue. -/
def exec (i : Instr) (s : State) : Host.Outcome State Fault Refusal :=
  match i with
  | .hardReset straps => Sys2Proof.Machine.execHardReset straps s
  | .bufferSelfTest read55 readAA => Sys2Proof.Machine.execBufferSelfTest read55 readAA s
  | .entryToHalted => Sys2Proof.Machine.execEntryToHalted s
  | .offer f => Sys2Proof.Machine.execOffer f s
  | .withdraw f => Sys2Proof.Machine.execWithdraw f s
  | .grant f => Sys2Proof.Machine.execGrant f s
  | .refuse f => Sys2Proof.Machine.execRefuse f s
  | .data f => Sys2Proof.Machine.execData f s
  | .claim f => Sys2Proof.Machine.execClaim f s
  | .fetch f => Sys2Proof.Machine.execFetch f s
  | .release f => Sys2Proof.Machine.execRelease f s
  | .beacon f => Sys2Proof.Machine.execBeacon f s
  | .mediumTakesFrame => Sys2Proof.Machine.execMediumTakesFrame s
  | .mediumRefusesFrame => Sys2Proof.Machine.execMediumRefusesFrame s
  | .contestExpiry source ticket => Sys2Proof.Machine.execContestExpiry source ticket s
  | .peerSweep => Sys2Proof.Machine.execPeerSweep s
  | .sweepTimer => Sys2Proof.Machine.execSweepTimer s
  | .beaconTimer => Sys2Proof.Machine.execBeaconTimer s
  | .claimTimeout source ticket => Sys2Proof.Machine.execClaimTimeout source ticket s
  | .ageDeadline => Sys2Proof.Machine.execAgeDeadline s
  | .fetchTimeout slot => Sys2Proof.Machine.execFetchTimeout slot s
  | .drainTimeout => Sys2Proof.Machine.execDrainTimeout s
  | .ready fields => Sys2Proof.Machine.execReady fields s
  | .stored fields => Sys2Proof.Machine.execStored fields s
  | .fault fields => Sys2Proof.Machine.execFault fields s
  | .copyCompletion => Sys2Proof.Machine.execCopyCompletion s
  | .identify params => Sys2Proof.Machine.execIdentify params s
  | .status params => Sys2Proof.Machine.execStatus params s
  | .counters params => Sys2Proof.Machine.execCounters params s
  | .configure params => Sys2Proof.Machine.execConfigure params s
  | .start params => Sys2Proof.Machine.execStart params s
  | .closeNow form params => Sys2Proof.Machine.execCloseNow form params s
  | .quiesce form params => Sys2Proof.Machine.execQuiesce form params s
  | .resume form params => Sys2Proof.Machine.execResume form params s
  | .takeRecord params => Sys2Proof.Machine.execTakeRecord params s
  | .restart params => Sys2Proof.Machine.execRestart params s
  | .unknownCommand write => Sys2Proof.Machine.execUnknownCommand write s
  | .responseRead count => Sys2Proof.Machine.execResponseRead count s
  | .checkErrorFrame bytes => Sys2Proof.Machine.execCheckErrorFrame bytes s
  | .unknownKindFrame kind f => Sys2Proof.Machine.execUnknownKindFrame kind f s
  | .unknownDrainMessage message => Sys2Proof.Machine.execUnknownDrainMessage message s

end Sys2Proof.Machine
end

