-- ==== Sys2Proof/Safety.lean ====
section
/-! DEFINITION. The bounds and exclusions the manual gives the part's state, as properties of one state; a safe run keeps them at every
step. -/

namespace Sys2Proof.Machine

/-- The candidate list: at most 1,024 entries, no two of one pair (R41). -/
def Oft.bounded (x : Oft) : Prop :=
  x.candidates.length ≤ 1024 ∧ (x.candidates.map fun c => c.file.pair).Nodup

/-- The pending claim table never holds more than the largest pending maximum (R73, R199). -/
def Sel.bounded (x : Sel) : Prop := x.claims.length ≤ 8

/-- The release list never holds more than 8,200 records (R187). -/
def Aru.bounded (x : Aru) : Prop := x.releases.length ≤ 8200

/-- The outstanding drain messages never exceed 4 (R160). -/
def Drn.bounded (x : Drn) : Prop := x.window.length ≤ 4

/-- A held frame has been refused fewer than 16 times (R34). -/
def Lif.bounded (x : Lif) : Prop := ∀ h, x.holder = some h → h.refusals < 16

/-- Every field of the configuration record lies in its range (R199, R200). -/
def ConfigInRange (c : ConfigRecord) : Prop :=
  c.rotation ≤ 63 ∧ maskValid c.keyMask = true ∧ 32 ≤ c.packLimit ∧ c.packLimit ≤ 16384 ∧ c.closeMargin ≤ 65535 ∧
  c.strayAge ≤ 3600 ∧ c.admitFloor ≤ 1023 ∧ 1 ≤ c.beaconSecs ∧ c.beaconSecs ≤ 60 ∧
  10 ≤ c.claimTimeout ∧ c.claimTimeout ≤ 10000 ∧ 1 ≤ c.pendingMax ∧ c.pendingMax ≤ 8 ∧
  10 ≤ c.fetchTimeout ∧ c.fetchTimeout ≤ 10000 ∧ 1 ≤ c.fetchSlots ∧ c.fetchSlots ≤ 4 ∧
  10 ≤ c.packAgeLimit ∧ c.packAgeLimit ≤ 86400 ∧ 100 ≤ c.drainTimeout ∧ c.drainTimeout ≤ 60000

/-- At most one slot is FORMING, OPEN or CLOSING (R99). -/
def Pkb.oneAccepting (x : Pkb) : Prop := ¬ (x.slotA.state.accepting = true ∧ x.slotB.state.accepting = true)

/-- The records queued and the slots in use together never exceed 32 (R101, R205). -/
def State.recordsFit (s : State) : Prop := s.mgt.records.length + s.slotsInUse ≤ 32

/-- Everything the manual bounds or excludes in one state. -/
structure State.Sound (s : State) : Prop where
  candidates : s.oft.bounded
  claims : s.sel.bounded
  releases : s.aru.bounded
  window : s.drn.bounded
  holder : s.lif.bounded
  config : ConfigInRange s.mgt.config
  accepting : s.pkb.oneAccepting
  records : s.recordsFit
  memory : s.mem.wf

/-- No pair is listed twice, pending twice, or both listed and pending (R41, R43, R79). -/
def State.pairsDistinct (s : State) : Prop :=
  (s.oft.candidates.map (fun c => c.file.pair) ++ s.sel.claims.map fun c => c.file.pair).Nodup

/-- The slots from OPEN onward, in increasing sequence order (R192). -/
def State.abortableSlots (s : State) : List SlotId :=
  (if (s.slot .b).seq.toNat < (s.slot .a).seq.toNat then [.b, .a] else [.a, .b]).filter fun id => (s.slot id).state.abortable

/-- The drain engine's current pack, if its slot can be aborted (R172). -/
def State.currentGivenUp (s : State) : Option CurrentPack :=
  s.drn.current.filter fun c => (s.slot c.slot).state.abortable

/-- The sequence and outcome of the record a CARRYING slot holds back (R183, R191). -/
def Slot.carriedRecord (x : Slot) : List (Word32 × PackOutcome) :=
  match x.state, x.record with
  | .carrying, some r => [(r.seq, r.outcome)]
  | _, _ => []

/-- What RESTART and entry to HALTED release (R189, R192): every member not VOID of the slots from OPEN onward, with the cause's reason. -/
def State.givenUpReleases (s : State) (cause : AbortCause) : List Release :=
  s.abortableSlots.flatMap fun id => ((s.slot id).members.filter fun m => !m.state.isVoid).map fun m =>
    ⟨m.file.pair, if cause = .restart then .restart else .abort⟩

/-- What RESTART and entry to HALTED give up and what they leave alone (R92, R97, R142, R158, R172, R175, R192). No claim, no fetch and no
copy is left, and no buffer but a RETIRED one is held. The packs' segments leave the drain queue; a current pack's window, timeout and place
go, and its abandon record waits, or leaves as ABANDON where the port is UP. For slots as they can be (none ABORTED, not both CARRYING)
every slot is FREE, the records of before stay ahead of the given-up packs' own, which stand in increasing sequence order, a CARRYING
slot's first, and, while the holder is FULL and the list has room, the releases of the packs join it, the one pack's ahead of the other's in
that order (log entry 9). -/
def State.givenUp (s t : State) (cause : AbortCause) : Prop :=
  t.sel = { claims := [], sweepAt := none } ∧ t.fen.queue = [] ∧ (∀ i : Fin 4, t.fen.slots[i] = none) ∧ t.fen.items = [] ∧
  t.aru.copies = [] ∧ t.spl.promised = 0 ∧
  (∀ i, t.buffer i = if (s.buffer i).state = .retired then s.buffer i else ⟨.free, none⟩) ∧
  t.drn =
    { port := s.drn.port
      queue := s.drn.queue.filter fun x => !(s.slot x.slot).state.abortable
      current := if s.currentGivenUp.isSome then none else s.drn.current
      window := if s.currentGivenUp.isSome then [] else s.drn.window
      deadline := if s.currentGivenUp.isSome then none else s.drn.deadline
      abandon := match s.currentGivenUp with
        | some c => if s.drn.port = .up then none else some ⟨c.epoch, c.seq, c.stored⟩
        | none => s.drn.abandon } ∧
  t.emitted = (match s.currentGivenUp with
    | some c => if s.drn.port = .up then [.message (.abandon s.lif.station c.epoch c.seq c.stored)] else []
    | none => []) ∧
  ((∀ id, (s.slot id).state ≠ .aborted) → ¬ ((s.slot .a).state = .carrying ∧ (s.slot .b).state = .carrying) →
    (∀ id, (t.slot id).state = .free ∧ ((s.slot id).state ≠ .free → t.slot id = {})) ∧
    (∃ own, t.mgt.records = s.mgt.records ++ own ∧
      own.map (fun r => (r.seq, r.outcome)) =
        (s.slot .a).carriedRecord ++ (s.slot .b).carriedRecord ++
          s.abortableSlots.map fun id => ((s.slot id).seq, .aborted cause)) ∧
    (s.lif.holder.isSome = true → s.aru.releases.length + (s.givenUpReleases cause).length ≤ 8200 →
      t.aru.releases = s.aru.releases ++ s.givenUpReleases cause ∧ t.lif = s.lif)) ∧
  t.pkb.nextSeq = s.pkb.nextSeq ∧ t.lif.station = s.lif.station ∧ t.mem = s.mem

/-- Segments from `lo` on, n of them, have taken buffers between two states (R10, R144): the lowest-numbered FREE buffers are bound to the
slot and these segments, in increasing order, and are FILLING; every other buffer is as it was. -/
def State.takesBuffers (s t : State) (id : SlotId) (lo n : Nat) : Prop :=
  let free := (List.finRange 64).filter fun i => (s.buffer i).state = .free
  (∀ (j : Nat) (i : Fin 64), j < n → free[j]? = some i → t.buffer i = ⟨.filling, some (id, lo + j)⟩) ∧
  (∀ i : Fin 64, (∀ j, j < n → free[j]? ≠ some i) → t.buffer i = s.buffer i)

/-! ### Conditions under which a command's own event is all of its step -/

/-- A frame of this kind from this sender passes the tests of R27 and R29 and is heard (R30); that its fields are well formed (R28) is
the condition of the reader of its kind. -/
def State.accepts (s : State) (kind : Byte) (f : Frame) (sender : Station) : Prop :=
  s.mgt.run ≠ .selftest ∧ passesCheck kind f = true ∧ stationOf f.sender = some sender ∧ sender ≠ s.lif.station

/-- The transmit holder is FULL (R36), so the arbiter takes nothing up. -/
def State.holderFull (s : State) : Prop := s.lif.holder.isSome = true

/-- No round can be run (R75): the run state is not RUN, or a claim is WAITING, or there is no accepting pack and none can form. -/
def State.roundsHeld (s : State) : Prop :=
  s.mgt.run ≠ .run ∨ s.sel.claims.any Claim.isWaiting = true ∨ (s.accepting = none ∧ s.canForm = false)

/-- Nothing but the command's own event happens in its step: the holder is FULL, no round can be run and QUIET is not due. -/
def State.atRest (s : State) : Prop := s.holderFull ∧ s.roundsHeld ∧ s.quietNow = false

/-- A round, if one is run, admits nothing: the run state is not RUN, or no candidate is listed (R75, R78). -/
def State.noneToAdmit (s : State) : Prop := s.mgt.run ≠ .run ∨ s.oft.candidates = []

/-- The segment at a slot's commit point is still being filled (R147, condition 3): no manifest is placed and its last usable cell does
not lie below E. -/
def Slot.segmentOpen (x : Slot) : Prop :=
  x.manifest = none ∧ (x.commitPoint.all fun k => x.e < 2047 * k + 2046) = true

/-- A pack laid out as R4 and R6 have it: extents one behind the other below E, and a placed manifest at E with an entry per member and
the pack length of R4. -/
def Slot.laidOut (x : Slot) : Prop :=
  x.members.Pairwise (fun m n => m.headN + m.footprint ≤ n.headN) ∧
  (∀ m ∈ x.members, 1 ≤ m.footprint ∧ m.headN + m.footprint ≤ x.e ∧ m.file.name.length ≤ 200) ∧
  (∀ mf ∈ x.manifest, mf.headN = x.e ∧ mf.entries.length = x.members.length ∧
    mf.packLength = seg (x.e + mc x.members.length - 1) + 1)

/-- A pass of the self-test reads back, within the buffer, a byte that differs from its pattern (R155). -/
def deviates (pattern : Byte) (reads : List Host.Cell) : Prop := ∃ c ∈ reads, c.1 < 1048576 ∧ c.2 ≠ pattern

/-! ### Written cells -/

/-- A cell with a marker and a cell check: every byte from `used` to 507 is zero (R11, R13). -/
def checkedLayout (cell marker : List Byte) (used : Nat) : Prop :=
  cell.length = 512 ∧ cell.take 4 = marker ∧ (∀ i, used ≤ i → i < 508 → cell[i]? = some 0) ∧
  fieldAt cell 508 4 = (crc32 (cell.take 508)).toNat

/-- A pack head, field by field (R14). -/
def isPackHead (cell : List Byte) (station : Station) (epoch seq : Word32) (limit : Nat) (key openTime : Word64) : Prop :=
  checkedLayout cell [0x47#8, 0x50#8, 0x4B#8, 0x31#8] 33 ∧ fieldAt cell 4 2 = 1 ∧ fieldAt cell 6 1 = station.val ∧
  fieldAt cell 7 2 = limit % 2 ^ 16 ∧ fieldAt cell 9 4 = epoch.toNat ∧ fieldAt cell 13 4 = seq.toNat ∧
  fieldAt cell 17 8 = key.toNat ∧ fieldAt cell 25 8 = openTime.toNat

/-- The state and void reason a settled member is written with (R15, R19). -/
def writtenState : MemberState → Nat × Nat
  | .void .checksum => (2, 1)
  | .void .fetch => (2, 2)
  | .void .withdrawn => (2, 3)
  | .granted | .fetching | .done | .copying => (1, 0)

/-- A member head, field by field (R15). -/
def isMemberHead (cell : List Byte) (index : Nat) (m : Member) : Prop :=
  checkedLayout cell [0x47#8, 0x4D#8, 0x48#8, 0x31#8] 232 ∧ fieldAt cell 4 1 = (writtenState m.state).1 ∧
  fieldAt cell 5 1 = (writtenState m.state).2 ∧ fieldAt cell 6 1 = (if m.carried then 1 else 0) ∧
  fieldAt cell 7 1 = m.file.pair.source.val ∧ fieldAt cell 8 1 = m.file.cls % 2 ^ 8 ∧
  fieldAt cell 9 4 = m.file.pair.ticket.toNat ∧ fieldAt cell 13 8 = m.file.tag.toNat ∧ fieldAt cell 21 4 = m.file.size % 2 ^ 32 ∧
  fieldAt cell 25 4 = m.file.crc.toNat ∧ fieldAt cell 29 1 = m.file.name.length ∧
  (cell.drop 30).take 200 = m.file.name ++ List.replicate (200 - m.file.name.length) 0 ∧ fieldAt cell 230 2 = index % 2 ^ 16

/-- A segment tail, field by field (R17, R150). -/
def isTail (cell : List Byte) (epoch seq : Word32) (number heads : Nat) (dataCrc : Word32) (last : Bool) : Prop :=
  checkedLayout cell [0x47#8, 0x53#8, 0x54#8, 0x31#8] 23 ∧ fieldAt cell 4 4 = epoch.toNat ∧ fieldAt cell 8 4 = seq.toNat ∧
  fieldAt cell 12 4 = number % 2 ^ 32 ∧ fieldAt cell 16 2 = heads % 2 ^ 16 ∧ fieldAt cell 18 4 = dataCrc.toNat ∧
  fieldAt cell 22 1 = (if last then 1 else 0)

/-- A manifest head, field by field (R18). -/
def isManifestHead (cell : List Byte) (epoch seq : Word32) (key : Word64) (mf : Manifest) : Prop :=
  checkedLayout cell [0x47#8, 0x4D#8, 0x46#8, 0x31#8] 42 ∧ fieldAt cell 4 4 = epoch.toNat ∧ fieldAt cell 8 4 = seq.toNat ∧
  fieldAt cell 12 2 = mf.entries.length % 2 ^ 16 ∧
  fieldAt cell 14 2 = (mf.entries.countP fun x => x.state.isVoid) % 2 ^ 16 ∧
  fieldAt cell 16 2 = (mf.entries.countP fun x => x.carried) % 2 ^ 16 ∧ fieldAt cell 18 8 = key.toNat ∧
  fieldAt cell 26 8 = mf.closeTime.toNat ∧ fieldAt cell 34 4 = mf.packLength % 2 ^ 32 ∧ fieldAt cell 38 4 = (mf.headN + 1) % 2 ^ 32

/-- A manifest entry, 64 bytes, field by field (R19). -/
def isManifestEntry (bytes : List Byte) (x : ManifestEntry) : Prop :=
  bytes.length = 64 ∧ fieldAt bytes 0 4 = x.file.pair.ticket.toNat ∧ fieldAt bytes 4 1 = x.file.pair.source.val ∧
  fieldAt bytes 5 1 = (writtenState x.state).1 ∧ fieldAt bytes 6 1 = (writtenState x.state).2 ∧
  fieldAt bytes 7 1 = (if x.carried then 1 else 0) ∧ fieldAt bytes 8 1 = (if x.dataPresent then 1 else 0) ∧
  fieldAt bytes 9 1 = x.file.cls % 2 ^ 8 ∧ fieldAt bytes 10 4 = x.headN % 2 ^ 32 ∧ fieldAt bytes 14 4 = x.file.size % 2 ^ 32 ∧
  fieldAt bytes 18 4 = x.file.crc.toNat ∧ fieldAt bytes 22 8 = x.file.tag.toNat ∧ (∀ i, 30 ≤ i → i < 64 → bytes[i]? = some 0)

/-! ### Well-formed frames -/

/-- The form tests of R28, over the lengths, forms and ranges of R25 and R26. -/
def frameWellFormed (kind : Byte) (f : Frame) : Prop :=
  f.sender.toNat ≤ 31 ∧ f.bodyLength.toNat = f.body.length ∧
    ((kind = 0x21#8 ∧ f.target = 0xFF#8 ∧ 22 ≤ f.body.length ∧ f.body.length = 22 + fieldAt f.body 21 1 ∧
        fieldAt f.body 21 1 ≤ 200 ∧ fieldAt f.body 20 1 ≤ 15) ∨
      (kind = 0x22#8 ∧ f.target = 0xFF#8 ∧ f.body.length = 4) ∨
      (kind = 0x23#8 ∧ f.target = 0xFF#8 ∧ f.body.length = 5 ∧ fieldAt f.body 4 1 ≤ 31) ∨
      (kind = 0x24#8 ∧ f.target = 0xFF#8 ∧ f.body.length = 6 ∧ fieldAt f.body 4 1 ≤ 31 ∧ 1 ≤ fieldAt f.body 5 1 ∧
        fieldAt f.body 5 1 ≤ 3) ∨
      (kind = 0x25#8 ∧ f.target.toNat ≤ 31 ∧ 11 ≤ f.body.length ∧ f.body.length = 11 + fieldAt f.body 8 2 ∧
        1 ≤ fieldAt f.body 8 2 ∧ fieldAt f.body 8 2 ≤ 4096 ∧ fieldAt f.body 10 1 ≤ 1) ∨
      (kind = 0x41#8 ∧ f.target = 0xFF#8 ∧ f.body.length = 9 ∧ fieldAt f.body 0 1 ≤ 31) ∨
      (kind = 0x42#8 ∧ f.target.toNat ≤ 31 ∧ f.body.length = 4) ∨
      (kind = 0x43#8 ∧ f.target.toNat ≤ 31 ∧ f.body.length = 5 ∧ 1 ≤ fieldAt f.body 4 1 ∧ fieldAt f.body 4 1 ≤ 6) ∨
      (kind = 0x44#8 ∧ f.target = 0xFF#8 ∧ f.body.length = 23 ∧ 1 ≤ fieldAt f.body 8 1 ∧ fieldAt f.body 8 1 ≤ 4 ∧
        fieldAt f.body 21 2 ≤ 4096))

/-- The command by which a frame of a kind arrives. -/
def frameCommand (kind : Byte) (f : Frame) : Instr :=
  if kind = 0x21#8 then .offer f
  else if kind = 0x22#8 then .withdraw f
  else if kind = 0x23#8 then .grant f
  else if kind = 0x24#8 then .refuse f
  else if kind = 0x25#8 then .data f
  else if kind = 0x41#8 then .claim f
  else if kind = 0x42#8 then .fetch f
  else if kind = 0x43#8 then .release f
  else if kind = 0x44#8 then .beacon f
  else .unknownKindFrame kind f

/-- A frame as another station sends it: the length field, the body and the check of R24, the sender and the target as given. -/
def arrivingFrame (kind : Byte) (sender : Station) (target : Byte) (body : List Byte) : Frame where
  sender := stationByte sender
  target := target
  bodyLength := BitVec.ofNat 16 body.length
  body := body
  check := crc32 (headerBytes kind (stationByte sender) target body.length ++ body)

end Sys2Proof.Machine
end

