-- ==== Sys2Proof/WellFormed.lean ====
section
/-! DEFINITION. Well-formed commands: operands that the named row can bring. A command that is not well formed still runs: it is handled
as what its bytes spell (log entry 19). -/

namespace Sys2Proof

/-- The frame kind codes (R25). -/
def kindCodes : List Byte := [0x21#8, 0x22#8, 0x23#8, 0x24#8, 0x25#8, 0x41#8, 0x42#8, 0x43#8, 0x44#8]

/-- The longest body a delimited frame can bring and still fit its 16-bit length field. -/
def frameWf (f : Frame) : Bool := f.body.length < 65536

/-- Whether delimited bytes fail the length and check test (R27). -/
def failsCheck (bytes : List Byte) : Bool :=
  match Machine.splitFrame bytes with
  | some (kind, f) => !Machine.passesCheck kind f
  | none => true

/-- Whether a write's command is one row 2 or row 4 of R196 answers UNKNOWN for its command or mode byte, or is a RUN-MODE with no mode
byte: a write that no other row of the table names. -/
def unknownWrite (write : List Byte) : Bool :=
  match write with
  | [] => false
  | code :: params =>
    if code = 0x20#8 then
      match params with
      | [] => true
      | mode :: _ => !(mode = 1#8 || mode = 2#8 || mode = 3#8)
    else !Machine.commandCodes.contains code.toNat

/-- Whether a message of the mover is malformed (R162). -/
def malformedMessage (message : List Byte) : Bool :=
  match message with
  | [] => true
  | kind :: fields =>
    if kind = 0x81#8 then (Machine.readStored fields).isNone
    else if kind = 0x82#8 then (Machine.readFault fields).isNone
    else if kind = 0x83#8 then !fields.isEmpty
    else true

/-- Well-formed commands. The frame, message and parameter commands take any bytes their line can bring: a bad one is counted or answered
by the rules, not refused. -/
def Instr.wf : Instr → Bool
  | .hardReset _ => true
  | .bufferSelfTest read55 readAA => (read55 ++ readAA).all fun c => c.1 < 1048576
  | .entryToHalted => true
  | .offer f => frameWf f
  | .withdraw f => frameWf f
  | .grant f => frameWf f
  | .refuse f => frameWf f
  | .data f => frameWf f
  | .claim f => frameWf f
  | .fetch f => frameWf f
  | .release f => frameWf f
  | .beacon f => frameWf f
  | .mediumTakesFrame => true
  | .mediumRefusesFrame => true
  | .contestExpiry _ _ => true
  | .peerSweep => true
  | .sweepTimer => true
  | .beaconTimer => true
  | .claimTimeout _ _ => true
  | .ageDeadline => true
  | .fetchTimeout _ => true
  | .drainTimeout => true
  | .ready _ => true
  | .stored _ => true
  | .fault _ => true
  | .copyCompletion => true
  | .identify _ => true
  | .status _ => true
  | .counters _ => true
  | .configure _ => true
  | .start _ => true
  | .closeNow _ _ => true
  | .quiesce _ _ => true
  | .resume _ _ => true
  | .takeRecord _ => true
  | .restart _ => true
  | .unknownCommand write => unknownWrite write
  | .responseRead _ => true
  | .checkErrorFrame bytes => failsCheck bytes
  | .unknownKindFrame kind f => frameWf f && !kindCodes.contains kind
  | .unknownDrainMessage message => malformedMessage message

end Sys2Proof
end

