-- ==== Sys2Proof/Certificates/Slice0/Obligations.lean ====
section
/-! DEFINITION. The statements for the provers. Where a statement gives the next state of a command exactly, it names every piece of state the
command changes; `s.begin` is `s` with nothing emitted yet and no wake-up spent (log entry 17). -/

open Sys2Proof Sys2Proof.Machine

/-! ### The queue and the passing of time -/

/-- A step runs the command at the front of the queue on the state with the queue's rest. -/
def Obligations.StepRunsFront : Prop :=
  ∀ (c : Instr) (rest : List Instr) (s : State), step (s.withPending (c :: rest)) = exec c (s.withPending rest)

/-- With no command waiting, a step raises the report of R154 when it is due, else makes one issue of the next-message choice, which is an event
of its own (R165), else lets one millisecond pass while the clock runs, else does nothing (the model's choice: log entries 1 and 32). -/
def Obligations.StepIdle : Prop :=
  ∀ s : State, s.pending = [] →
    (s.haltDue = true → step s = .next { s with pending := [.entryToHalted] }) ∧
    (∀ t, s.haltDue = false → s.begin.nextIssue = some t → step s = .next t.settle) ∧
    (s.haltDue = false → s.begin.nextIssue = none → s.mgt.clock = none → step s = .next s) ∧
    (∀ t, s.haltDue = false → s.begin.nextIssue = none → s.mgt.clock = some t →
      let u : State := { s with mgt := { s.mgt with clock := some (t + 1) } }
      step s = .next { u with pending := u.dueCommands })

/-! ### Hard reset and self-test -/

/-- HARD_RESET (R39, R57, R71, R96, R119, R142, R155, R158, R175, R194, R199, R204). The contents of the buffers stay (log entry 6); every field
of a FREE slot is absent, empty or 0 (log entry 25). -/
def Obligations.HardReset : Prop :=
  ∀ (straps : Station) (s : State), ∃ t, exec (.hardReset straps) s = .next t ∧
    t.lif = ⟨straps, none⟩ ∧ t.oft.candidates = [] ∧
    t.pvw.table = [] ∧ t.pvw.items = [] ∧ t.pvw.timer = none ∧ t.pvw.sweepAt = none ∧
    t.sel.claims = [] ∧ t.sel.sweepAt = none ∧
    t.slot .a = {} ∧ t.slot .b = {} ∧ t.pkb.nextSeq = 0 ∧
    t.fen.queue = [] ∧ t.fen.items = [] ∧ (∀ i : Fin 4, t.fen.slots[i] = none) ∧
    (∀ i, t.buffer i = ⟨.free, none⟩) ∧ t.spl.promised = 0 ∧ t.spl.tested = 0 ∧
    t.drn.port = .down ∧ t.drn.queue = [] ∧ t.drn.current = none ∧ t.drn.window = [] ∧ t.drn.abandon = none ∧
    t.drn.deadline = none ∧ t.aru.releases = [] ∧ t.aru.copies = [] ∧
    t.mgt.run = .selftest ∧ t.mgt.frozen = false ∧ t.mgt.clock = none ∧ t.mgt.records = [] ∧ t.mgt.response = none ∧
    t.mgt.restarting = false ∧ t.mgt.attentionHeld = false ∧
    t.mgt.config = ⟨0, 0, 0, 0xFFFFFFFFFFFFFFFF#64, 4096, 2047, 300, 0, 5, 200, 4, 500, 4, 3600, 5000, false⟩ ∧
    (∀ c, t.count c = 0) ∧ t.attention = false ∧ t.mem = s.mem ∧ t.emitted = [] ∧ t.pending = s.pending

/-- BUFFER_SELF_TEST (R155): the next buffer, and it alone, is tested. -/
def Obligations.BufferSelfTest : Prop :=
  ∀ (read55 readAA : List Host.Cell) (s : State) (i : Fin 64),
    s.mgt.run = .selftest → s.spl.tested = i.val → s.buffer i = ⟨.free, none⟩ →
    ∃ t, exec (.bufferSelfTest read55 readAA) s = .next t ∧
      t.spl.tested = i.val + 1 ∧
      (deviates 0x55#8 read55 ∨ deviates 0xAA#8 readAA →
        t.buffer i = ⟨.retired, none⟩ ∧ t.count .selfTestRetirements = saturatingNext (s.count .selfTestRetirements)) ∧
      (¬ deviates 0x55#8 read55 → ¬ deviates 0xAA#8 readAA →
        t.buffer i = ⟨.free, none⟩ ∧ t.count .selfTestRetirements = s.count .selfTestRetirements) ∧
      (∀ j, j ≠ i → t.buffer j = s.buffer j) ∧ t.spl.promised = s.spl.promised ∧
      (∀ c, c ≠ .selfTestRetirements → t.count c = s.count c) ∧
      (∀ a, 1048576 * i.val ≤ a → a < 1048576 * (i.val + 1) → t.mem.read a = 0xAA#8) ∧
      (∀ a, a < 1048576 * i.val ∨ 1048576 * (i.val + 1) ≤ a → t.mem.read a = s.mem.read a) ∧
      t.mgt = { s.mgt with run := if i.val = 63 then .config else .selftest } ∧
      t.lif = s.lif ∧ t.oft = s.oft ∧ t.pvw = s.pvw ∧ t.sel = s.sel ∧ t.pkb = s.pkb ∧ t.fen = s.fen ∧ t.drn = s.drn ∧
      t.aru = s.aru

/-! ### Reception (R27-R32) -/

/-- CHECK_ERROR_FRAME: bytes that fail the length and check test are counted and nothing more; bytes that pass it arrive as the frame they
spell (R27, log entry 19). -/
def Obligations.CheckErrorFrame : Prop :=
  ∀ (bytes : List Byte) (s : State), s.mgt.run ≠ .selftest →
    (bytes.length < 9 ∨ 4209 < bytes.length ∨
        (crc32 (bytes.take (bytes.length - 4))).toNat ≠ ofLe (bytes.drop (bytes.length - 4)) →
      exec (.checkErrorFrame bytes) s = .next (s.begin.bump .checkErrors)) ∧
    (9 ≤ bytes.length → bytes.length ≤ 4209 →
        (crc32 (bytes.take (bytes.length - 4))).toNat = ofLe (bytes.drop (bytes.length - 4)) →
      ∃ kind f, passesCheck kind f = true ∧
        [kind, f.sender, f.target] ++ le 2 f.bodyLength.toNat ++ f.body ++ le 4 f.check.toNat = bytes ∧
        exec (.checkErrorFrame bytes) s = exec (frameCommand kind f) s)

/-- Every arriving frame of any kind, UNKNOWN_KIND_FRAME included, is judged (R27-R30): not heard in SELFTEST; else counted once as a check
error, malformed or own-number frame, and then discarded. -/
def Obligations.FrameJudged : Prop :=
  ∀ (kind : Byte) (f : Frame) (s : State),
    (s.mgt.run = .selftest → exec (frameCommand kind f) s = .next s.begin) ∧
    (s.mgt.run ≠ .selftest → passesCheck kind f = false →
      exec (frameCommand kind f) s = .next (s.begin.bump .checkErrors)) ∧
    (s.mgt.run ≠ .selftest → passesCheck kind f = true → ¬ frameWellFormed kind f →
      exec (frameCommand kind f) s = .next (s.begin.bump .malformedFrames)) ∧
    (s.mgt.run ≠ .selftest → passesCheck kind f = true → frameWellFormed kind f → f.sender.toNat = s.lif.station.val →
      exec (frameCommand kind f) s = .next (s.begin.bump .ownNumberFrames))

/-- FETCH, RELEASE and DATA addressed to another station are accepted and passed over to no block (R32). -/
def Obligations.PassedOver : Prop :=
  ∀ (f : Frame) (sender : Station) (s : State),
    let t := (s.begin.bump .framesAccepted).bump .framesPassedOver
    (s.accepts 0x42#8 f sender → frameWellFormed 0x42#8 f → exec (.fetch f) s = .next t) ∧
    (s.accepts 0x43#8 f sender → frameWellFormed 0x43#8 f → exec (.release f) s = .next t) ∧
    (s.accepts 0x25#8 f sender → frameWellFormed 0x25#8 f → f.target.toNat ≠ s.lif.station.val →
      exec (.data f) s = .next t)

/-! ### Offers and the candidate list -/

/-- OFFER: the cases of R43, each with its effect on the list and its counter (R44-R47). -/
def Obligations.OfferArrives : Prop :=
  ∀ (f : Frame) (sender : Station) (x : FileInfo) (s : State),
    s.accepts 0x21#8 f sender → readOffer f sender = some x → s.atRest →
    let a := s.begin.bump .framesAccepted
    let list := s.oft.candidates
    let key := if s.mgt.frozen then some (affinityKey s.mgt.config x.tag) else none
    let listed := ∃ c ∈ list, c.file.pair = x.pair
    (s.heldHere x.pair = true → exec (.offer f) s = .next (a.bump .heldFileOffers)) ∧
    (s.heldHere x.pair = false → 16777216 < x.size →
      exec (.offer f) s =
        .next (State.bump { a with oft := ⟨list.filter fun c => c.file.pair ≠ x.pair⟩ } .oversizeOffers)) ∧
    (s.heldHere x.pair = false → x.size ≤ 16777216 → listed →
      exec (.offer f) s = .next { a with oft :=
        ⟨list.map fun c => if c.file.pair = x.pair then { c with file := x, key := key } else c⟩ }) ∧
    (s.heldHere x.pair = false → x.size ≤ 16777216 → ¬ listed → list.length < 1024 →
      exec (.offer f) s = .next { a with oft := ⟨list ++ [⟨x, key, s.mgt.clock, none⟩]⟩ }) ∧
    (s.heldHere x.pair = false → x.size ≤ 16777216 → ¬ listed → list.length = 1024 →
      exec (.offer f) s = .next (State.bump
        { a with oft := ⟨list.drop 1 ++ [⟨x, key, s.mgt.clock, none⟩]⟩ } .candidateEvictions))

/-- The affinity key, bit by bit: the tag rotated left by r, then masked (R48). -/
def Obligations.AffinityKeyBits : Prop :=
  ∀ (cfg : ConfigRecord) (tag : Word64) (i : Nat), cfg.rotation ≤ 63 → i < 64 →
    (affinityKey cfg tag).getLsbD i = (tag.getLsbD ((i + 64 - cfg.rotation) % 64) && cfg.keyMask.getLsbD i)

/-- The contest mark. CLAIM: another packer's claim marks the listed pair, for twice the claim timeout while the clock runs, else pending START
(R51). CONTEST_EXPIRY: the mark whose end time has come is removed (R52); before that the command has no effect (log entry 23). -/
def Obligations.ContestMarks : Prop :=
  (∀ (f : Frame) (sender : Station) (p : FilePair) (s : State),
    s.accepts 0x41#8 f sender → readClaim f sender = some p →
    let mark : Contest := match s.mgt.clock with
      | some t => .endsAt (t + 2 * s.mgt.config.claimTimeout)
      | none => .pendingEnd
    exec (.claim f) s = .next
      { s.begin.bump .framesAccepted with oft :=
        ⟨s.oft.candidates.map fun c => if c.file.pair = p then { c with contest := some mark } else c⟩ }) ∧
  (∀ (st : Station) (ticket : Word32) (c : Candidate) (s : State) (now e : Nat),
    s.candidate? ⟨st, ticket⟩ = some c → c.contest = some (.endsAt e) → s.mgt.clock = some now → s.atRest →
    (e ≤ now → exec (.contestExpiry st ticket) s = .next
      { s.begin with oft := ⟨s.oft.candidates.map fun d =>
        if d.file.pair = ⟨st, ticket⟩ then { d with contest := none } else d⟩ }) ∧
    (now < e → exec (.contestExpiry st ticket) s = .next s.begin))

/-- The end of a candidate that another's message brings (R54, R55): a WITHDRAW, a GRANT naming another station, and a REFUSE to another
claimant, for a pair that is neither a claim nor a live member here. A listed pair is removed and counted; an unlisted one changes nothing. -/
def Obligations.CandidateRemoved : Prop :=
  ∀ (f : Frame) (sender other : Station) (ticket : Word32) (s : State),
    s.atRest → s.claim? ⟨sender, ticket⟩ = none → s.liveMember ⟨sender, ticket⟩ = none → other ≠ s.lif.station →
    let a := s.begin.bump .framesAccepted
    let listed := ∃ c ∈ s.oft.candidates, c.file.pair = ⟨sender, ticket⟩
    let dropped : State := { a with oft := ⟨s.oft.candidates.filter fun c => c.file.pair ≠ ⟨sender, ticket⟩⟩ }
    (s.accepts 0x22#8 f sender → readWithdraw f sender = some ticket →
      (listed → exec (.withdraw f) s = .next (dropped.bump .candidatesWithdrawn)) ∧
      (¬ listed → exec (.withdraw f) s = .next a)) ∧
    (s.accepts 0x23#8 f sender → readGrant f sender = some (ticket, other) →
      (listed → exec (.grant f) s = .next (dropped.bump .candidatesTakenElsewhere)) ∧
      (¬ listed → exec (.grant f) s = .next a)) ∧
    (∀ reason, s.accepts 0x24#8 f sender → readRefuse f sender = some (ticket, other, reason) →
      (listed → reason = .taken → exec (.refuse f) s = .next (dropped.bump .candidatesTakenElsewhere)) ∧
      (listed → reason = .withdrawn → exec (.refuse f) s = .next (dropped.bump .candidatesWithdrawn)) ∧
      (¬ listed ∨ reason = .unknown → exec (.refuse f) s = .next a))

/-! ### Claims and their answers -/

/-- GRANT naming this station for a pending claim bound to an OPEN pack (R82, R83, R105, R106). The member joins the tables at E with its
footprint, the claim leaves, the lowest-numbered FREE buffers are taken for the segments up to the new E (R144), and the committed extent C does
not move (R9). The form stated is the one in which nothing follows in the same step: no fetch slot is free, the remaining room keeps to the
margin and the segment at the commit point stays open. -/
def Obligations.GrantPlaces : Prop :=
  ∀ (f : Frame) (sender : Station) (ticket : Word32) (c : Claim) (id : SlotId) (s : State),
    s.accepts 0x23#8 f sender → readGrant f sender = some (ticket, s.lif.station) →
    s.claim? ⟨sender, ticket⟩ = some c → c.slot = some id → (s.sel.claims.map fun d => d.file.pair).Nodup →
    (s.slot id).state = .opened → s.holderFull → s.noneToAdmit → s.freeFetchSlot = none →
    (s.roomOf id).committed + s.mgt.config.closeMargin ≤ (s.roomOf id).u → (s.slot id).members.length + 1 < 4096 →
    let x := s.slot id
    let e := x.e + footprintOf c.file.size
    Slot.segmentOpen { x with e := e } →
    let m : Member :=
      { file := c.file, key := c.key, headN := x.e, footprint := footprintOf c.file.size,
        state := if c.file.size = 0 then .done else .granted, carried := false, released := false, dataPresent := false }
    let a := (s.begin.bump .framesAccepted).bump .claimsPlaced
    let b : State := { a with sel := { s.sel with claims := s.sel.claims.filter fun d => d.file.pair ≠ ⟨sender, ticket⟩ } }
    let held := (b.setSlot id { x with e := e, members := x.members ++ [m] }).holdThrough id e
    ∃ t, exec (.grant f) s = .next t ∧
      t = State.recomputePromised { held with fen := { s.fen with
        queue := if c.file.size = 0 then s.fen.queue else s.fen.queue ++ [⟨id, x.members.length⟩] } } ∧
      (t.slot id).e = e ∧ (t.slot id).members = x.members ++ [m] ∧ (t.slot id).taken = max x.taken (seg (e - 1) + 1) ∧
      s.takesBuffers t id x.taken (seg (e - 1) + 1 - x.taken) ∧
      (t.roomOf id).committed = (s.roomOf id).committed

/-- GRANT naming this station for the first placement in a FORMING slot, in RUN (R107, R125): the pack opens with the sequence N, which
rises by one, with its key, times and age deadline, the buffer of segment 0 is taken unless it is held, an OPEN beacon is made, which stops the
beacon timer while it waits unless its expiry is due at this reading (log entry 30), and the free fetch engine takes the member. -/
def Obligations.GrantOpens : Prop :=
  ∀ (f : Frame) (sender : Station) (ticket : Word32) (c : Claim) (id : SlotId) (s : State),
    s.accepts 0x23#8 f sender → readGrant f sender = some (ticket, s.lif.station) →
    s.claim? ⟨sender, ticket⟩ = some c → c.slot = some id →
    (s.slot id).state = .forming → (s.slot id).members = [] → (s.slot id).e = 0 → (s.slot id).commitPoint = some 0 →
    (s.slot id).manifest = none → (s.slot id.other).state.accepting = false →
    s.mgt.run = .run → s.holderFull → s.oft.candidates = [] → 0 < c.file.size → footprintOf c.file.size < 2046 →
    s.fen.queue = [] → (∀ i : Fin 4, s.fen.slots[i] = none) → 1 ≤ s.mgt.config.fetchSlots →
    s.pkb.nextSeq ≠ BitVec.allOnes 32 →
    let x := s.slot id
    let key := x.tentativeKey.getD c.key
    let opening : BeaconItem := ⟨id, s.mgt.config.epoch, s.pkb.nextSeq, .opened, key, fillOf (footprintOf c.file.size), 1⟩
    (∀ y ∈ s.pvw.table, y.key ≠ key) →
    footprintOf c.file.size + ((s.sel.claims.filter fun d => d.slot = some id).map fun d => footprintOf d.file.size).sum +
      mc (1 + (s.sel.claims.filter fun d => d.slot = some id).length) + s.mgt.config.closeMargin ≤ capacity x.limit →
    ∃ t, exec (.grant f) s = .next t ∧
      t.slot id = { x with
        state := .opened, seq := s.pkb.nextSeq, tentativeKey := none, primaryKey := some key,
        openTime := some s.timestamp, openClock := some s.now,
        ageDeadline := some (s.now + 1000 * s.mgt.config.packAgeLimit), e := footprintOf c.file.size,
        taken := max x.taken 1,
        members := [
          { file := c.file, key := c.key, headN := 0, footprint := footprintOf c.file.size, state := .fetching,
            carried := false, released := false, dataPresent := false }] } ∧
      t.slot id.other = s.slot id.other ∧ t.pkb.nextSeq = s.pkb.nextSeq + 1 ∧
      t.pvw = { s.pvw with items := putItem opening s.pvw.items, timer := s.pvw.timer.filter (· ≤ s.now) } ∧
      s.takesBuffers t id x.taken (1 - x.taken) ∧ t.fen.queue = [] ∧ t.fen.items = s.fen.items ++ [0] ∧
      t.fen.slots[(0 : Fin 4)] = some
        { member := ⟨id, 0⟩, pair := c.file.pair, size := c.file.size, crc := c.file.crc, headN := 0, phase := .waiting,
          received := 0, running := 0xFFFFFFFF#32 } ∧
      (∀ i : Fin 4, i ≠ 0 → t.fen.slots[i] = none) ∧
      t.sel = { s.sel with claims := s.sel.claims.filter fun d => d.file.pair ≠ ⟨sender, ticket⟩ } ∧
      t.count .packsOpened = saturatingNext (s.count .packsOpened) ∧
      t.lif = s.lif ∧ t.oft = s.oft ∧ t.drn = s.drn ∧ t.aru = s.aru ∧ t.mgt = s.mgt ∧ t.mem = s.mem

/-- GRANT naming this station, where the placement takes the pack to CLOSING. An OPEN pack whose remaining room is then below the margin (R108),
or that reaches 4,096 members (R109), closes; so does a FORMING slot that opens in QUIESCING, for QUIESCE and without a yield (R107, R110), and
one that opens in RUN while a live OPEN entry of its key has the larger fill, or an equal fill and the lower station number (R68, R69), once for
however many (log entry 13). The pack closes once, with the counter of its cause; the CLOSING beacon it makes stops the beacon timer while it
waits, unless its expiry is due at this reading (log entry 30). Stated for a file with data, with no fetch slot free. -/
def Obligations.GrantCloses : Prop :=
  ∀ (f : Frame) (sender : Station) (ticket : Word32) (c : Claim) (id : SlotId) (s : State),
    s.accepts 0x23#8 f sender → readGrant f sender = some (ticket, s.lif.station) →
    s.claim? ⟨sender, ticket⟩ = some c → c.slot = some id → (s.slot id.other).state.accepting = false →
    s.holderFull → s.noneToAdmit → s.freeFetchSlot = none → 0 < c.file.size →
    let x := s.slot id
    let e := x.e + footprintOf c.file.size
    Slot.segmentOpen { x with e := e } →
    let claims := s.sel.claims.filter fun d => d.file.pair ≠ ⟨sender, ticket⟩
    let bound := claims.filter fun d => d.slot = some id
    let committed := e + (bound.map fun d => footprintOf d.file.size).sum + mc (x.members.length + 1 + bound.length)
    let m : Member :=
      { file := c.file, key := c.key, headN := x.e, footprint := footprintOf c.file.size, state := .granted, carried := false,
        released := false, dataPresent := false }
    let placed : Slot := { x with
      state := .closing, ageDeadline := none, e := e, taken := max x.taken (seg (e - 1) + 1), members := x.members ++ [m] }
    let opened : Slot := { placed with
      seq := s.pkb.nextSeq, tentativeKey := none, primaryKey := some (x.tentativeKey.getD c.key), openTime := some s.timestamp,
      openClock := some s.now }
    let closes (y : Slot) (nextSeq : Word32) (raised : List Ctr) : Prop :=
      ∃ t, exec (.grant f) s = .next t ∧ t.slot id = y ∧ t.slot id.other = s.slot id.other ∧ t.pkb.nextSeq = nextSeq ∧
        t.pvw = { s.pvw with
          items := putItem ⟨id, s.mgt.config.epoch, y.seq, .closing, y.primaryKey.getD 0, fillOf e, x.members.length + 1⟩ s.pvw.items
          timer := s.pvw.timer.filter (· ≤ s.now) } ∧
        t.sel = { s.sel with claims := claims } ∧ t.fen = { s.fen with queue := s.fen.queue ++ [⟨id, x.members.length⟩] } ∧
        s.takesBuffers t id x.taken (seg (e - 1) + 1 - x.taken) ∧
        t.spl.promised = demand (max x.taken (seg (e - 1) + 1)) committed ∧
        (∀ k, t.count k = if k ∈ raised then saturatingNext (s.count k) else s.count k) ∧
        t.lif = s.lif ∧ t.oft = s.oft ∧ t.drn = s.drn ∧ t.aru = s.aru ∧ t.mgt = s.mgt ∧ t.mem = s.mem
    (s.mgt.run = .run ∨ s.mgt.run = .quiescing → x.state = .opened → x.members.length + 1 < 4096 →
      capacity x.limit < committed + s.mgt.config.closeMargin →
      closes placed s.pkb.nextSeq [.framesAccepted, .claimsPlaced, .closesByRoom]) ∧
    (s.mgt.run = .run ∨ s.mgt.run = .quiescing → x.state = .opened → x.members.length + 1 = 4096 →
      committed + s.mgt.config.closeMargin ≤ capacity x.limit →
      closes placed s.pkb.nextSeq [.framesAccepted, .claimsPlaced, .closesByMemberLimit]) ∧
    (s.mgt.run = .quiescing → x.state = .forming → s.pkb.nextSeq ≠ BitVec.allOnes 32 →
      closes opened (s.pkb.nextSeq + 1) [.framesAccepted, .claimsPlaced, .packsOpened, .closesByQuiesce]) ∧
    (s.mgt.run = .run → x.state = .forming → s.pkb.nextSeq ≠ BitVec.allOnes 32 →
      (∀ now y h, s.mgt.clock = some now → y ∈ s.pvw.table → y.lastHeard = some h → now - h < 3 * s.mgt.config.beaconSecs * 1000 →
        y.phase = .opened → y.key = x.tentativeKey.getD c.key →
        fillOf e < y.fill ∨ (y.fill = fillOf e ∧ y.station.val < s.lif.station.val) →
        closes opened (s.pkb.nextSeq + 1) [.framesAccepted, .claimsPlaced, .packsOpened, .yields, .closesByYield]))

/-- GRANT naming this station for a pair that is not to be placed (R84-R86): an orphaned claim ends with a RELEASE(ABORT), a member makes the
GRANT a duplicate, and any other pair draws a RELEASE(LATE); a full release list counts the record as refused (R187). -/
def Obligations.GrantAnswered : Prop :=
  ∀ (f : Frame) (sender : Station) (ticket : Word32) (s : State),
    s.accepts 0x23#8 f sender → readGrant f sender = some (ticket, s.lif.station) → s.holderFull → s.noneToAdmit →
    s.quietNow = false →
    let p : FilePair := ⟨sender, ticket⟩
    let a := s.begin.bump .framesAccepted
    let released (u : State) (r : ReleaseReason) : State :=
      if s.aru.releases.length < 8200 then State.bump { u with aru := { s.aru with releases := s.aru.releases ++ [⟨p, r⟩] } } .releasesQueued
      else u.bump .releaseOverflows
    (∀ c, s.claim? p = some c → c.slot = none →
      exec (.grant f) s = .next ((released
        { a with sel := { s.sel with claims := s.sel.claims.filter fun d => d.file.pair ≠ p } } .abort).bump .abortedClaimGrants)) ∧
    (s.claim? p = none → s.isMember p = true → exec (.grant f) s = .next (a.bump .duplicateGrants)) ∧
    (s.claim? p = none → s.isMember p = false → exec (.grant f) s = .next ((released a .late).bump .lateGrants))

/-- The four endings of a pending claim without placement: a GRANT to another station, a REFUSE, a WITHDRAW and the deadline (R87-R91). The
entry leaves the table, its counter rises, and for an entry bound to an OPEN pack the promised count is computed again without it. A
CLAIM_TIMEOUT before the deadline has no effect (log entry 23). The end of the last claim of a FORMING slot with nothing placed returns the slot
to FREE (R102, R103); stated for the deadline. -/
def Obligations.ClaimEnds : Prop :=
  (∀ (f : Frame) (sender other : Station) (ticket : Word32) (reason : RefuseReason) (c : Claim) (s : State),
    let p : FilePair := ⟨sender, ticket⟩
    s.claim? p = some c → (∀ id, c.slot = some id → (s.slot id).state = .opened) → s.candidate? p = none → s.liveMember p = none →
    s.holderFull → s.noneToAdmit → s.quietNow = false →
    let ended (u : State) (k : Ctr) : State :=
      let v := State.bump { u with sel := { s.sel with claims := s.sel.claims.filter fun d => d.file.pair ≠ p } } k
      if c.slot = none then v else v.recomputePromised
    let a := s.begin.bump .framesAccepted
    (s.accepts 0x23#8 f sender → readGrant f sender = some (ticket, other) → other ≠ s.lif.station →
      exec (.grant f) s = .next (ended a .claimsLost)) ∧
    (s.accepts 0x24#8 f sender → readRefuse f sender = some (ticket, s.lif.station, reason) →
      exec (.refuse f) s = .next (ended a (match reason with
        | .taken => .claimsRefusedTaken
        | .withdrawn => .claimsRefusedWithdrawn
        | .unknown => .claimsRefusedUnknown))) ∧
    (s.accepts 0x22#8 f sender → readWithdraw f sender = some ticket →
      exec (.withdraw f) s = .next (ended a .claimsWithdrawn)) ∧
    (∀ now d, c.phase = .sent d → s.mgt.clock = some now →
      (d ≤ now → exec (.claimTimeout sender ticket) s = .next (ended s.begin .claimTimeouts)) ∧
      (now < d → exec (.claimTimeout sender ticket) s = .next s.begin))) ∧
  (∀ (sender : Station) (ticket : Word32) (c : Claim) (id : SlotId) (d now : Nat) (s : State),
    s.sel.claims = [c] → c.file.pair = ⟨sender, ticket⟩ → c.slot = some id → c.phase = .sent d → s.mgt.clock = some now → d ≤ now →
    (s.slot id).state = .forming → (s.slot id).members = [] → (s.slot id).manifest = none → (s.slot id.other).state.accepting = false →
    s.holderFull → s.noneToAdmit → s.mgt.run ≠ .quiescing →
    exec (.claimTimeout sender ticket) s = .next (State.bump (State.bump
      { s.begin.setSlot id {} with
        sel := { s.sel with claims := [] }, spl := { s.spl with promised := 0 } } .claimTimeouts) .formsAbandoned))

/-- OFFER in RUN with no accepting pack, when a pack can form and the offered file is the one candidate (R75-R79, R101, R102): it is admitted
as the opener claim of a FORMING slot, and waits for the FULL holder. -/
def Obligations.OfferAdmitted : Prop :=
  ∀ (f : Frame) (sender : Station) (x : FileInfo) (now : Nat) (s : State),
    s.accepts 0x21#8 f sender → readOffer f sender = some x → s.holderFull → s.mgt.run = .run → s.mgt.frozen = true →
    s.mgt.clock = some now → s.oft.candidates = [] → s.sel.claims = [] → 1 ≤ s.mgt.config.pendingMax →
    s.accepting = none → s.canForm = true → s.liveMember x.pair = none → x.size ≤ 16777216 → 32 ≤ s.mgt.config.packLimit →
    let key := affinityKey s.mgt.config x.tag
    let need := seg (footprintOf x.size + 1) + 1
    (∀ y ∈ s.pvw.table, y.key ≠ key) → need ≤ s.bufferCount .free → s.mgt.config.admitFloor ≤ 320 + 96 * min x.cls 3 →
    let id := if s.pkb.slotA.state = .free then SlotId.a else SlotId.b
    exec (.offer f) s = .next
      { (s.begin.bump .framesAccepted).setSlot id
          { state := .forming, seq := s.pkb.nextSeq, tentativeKey := some key, limit := s.mgt.config.packLimit,
            commitPoint := some 0 } with
        sel := { s.sel with claims := [⟨x, key, some id, .waiting⟩] }, spl := { s.spl with promised := need } }

/-- Eligibility and the affinity term (R76): not contested, a row of the table of affinity terms, the room test of R8 and the buffer test of R10
with the accepting pack's quantities or those of a pack about to form, and `held` as R62 has it. -/
def Obligations.Eligibility : Prop :=
  ∀ (c : Candidate) (key : Word64) (now heard a : Nat) (s : State),
    c.key = some key → s.mgt.clock = some now → c.firstHeard = some heard →
    let f := footprintOf c.file.size
    let held := ∃ y ∈ s.pvw.table, y.key = key ∧ (y.phase = .opened ∨ y.phase = .closing) ∧
      ∃ h, y.lastHeard = some h ∧ now - h < 3 * s.mgt.config.beaconSecs * 1000
    let packKey (k : Word64) := ∃ id, s.accepting = some id ∧
      (((s.slot id).state = .opened ∧ (s.slot id).primaryKey = some k) ∨
        ((s.slot id).state = .forming ∧ (s.slot id).tentativeKey = some k))
    let passes (e m k q limit taken : Nat) := e + q + f + mc (m + k + 1) ≤ 2047 * limit - 1 ∧ m + k + 1 ≤ 4096 ∧
      seg (e + q + f + mc (m + k + 1) - 1) + 1 - taken ≤ s.bufferCount .free
    let tests := (s.accepting = none ∧ passes 0 0 0 0 s.mgt.config.packLimit 0) ∨
      ∃ id, s.accepting = some id ∧
        let bound := s.sel.claims.filter fun d => d.slot = some id
        passes (s.slot id).e (s.slot id).members.length bound.length (bound.map fun d => footprintOf d.file.size).sum
          (s.slot id).limit (s.slot id).taken
    (s.eligible c = some a ↔ c.contest = none ∧ tests ∧
      ((a = 512 ∧ packKey key) ∨ (a = 320 ∧ s.accepting = none ∧ ¬ held) ∨
        (a = 128 ∧ (∃ k, packKey k ∧ k ≠ key) ∧ ¬ held ∧ s.mgt.config.strayAge ≤ (now - heard) / 1000)))

/-- A round (R75, R78, R79, R108). It is run only in RUN, with no claim WAITING, fewer claims than the pending maximum and a place for one. It
takes the eligible candidate with the highest score, the one nearest the front among equals, and admits it if its score is at least the admit
floor, else nothing. The admitted candidate leaves the list and joins the claims, WAITING, bound to the accepting pack, or to one that forms
for it with its key, and the promised count covers it; an OPEN pack whose remaining room is then below the close margin goes to CLOSING,
and its beacon stops the beacon timer unless that is due at this reading (log entry 30). -/
def Obligations.RoundTakesBest : Prop :=
  ∀ (s : State),
    let best := s.best s.oft.candidates
    let runs := s.mgt.run = .run ∧ (∀ d ∈ s.sel.claims, d.phase ≠ .waiting) ∧ s.sel.claims.length < s.mgt.config.pendingMax ∧
      ((∃ id, s.accepting = some id ∧ ((s.slot id).state = .forming ∨ (s.slot id).state = .opened)) ∨
        (s.accepting = none ∧ s.canForm = true))
    (∀ list, s.best list = none ↔ ∀ c ∈ list, s.score? c = none) ∧
    (∀ list c n, s.best list = some (c, n) →
      ∃ front back, list = front ++ c :: back ∧ s.score? c = some n ∧
        (∀ d ∈ front, ∀ m, s.score? d = some m → m < n) ∧ (∀ d ∈ back, ∀ m, s.score? d = some m → m ≤ n)) ∧
    (¬ runs ∨ best = none ∨ (∃ c n, best = some (c, n) ∧ n < s.mgt.config.admitFloor) → s.selectionRound = s) ∧
    (∀ c n key, runs → best = some (c, n) → s.mgt.config.admitFloor ≤ n → c.key = some key →
      let joined (id : SlotId) (x : Slot) : State × Nat :=
        let claims := s.sel.claims ++ [⟨c.file, key, some id, .waiting⟩]
        let bound := claims.filter fun d => d.slot = some id
        let committed := x.e + (bound.map fun d => footprintOf d.file.size).sum + mc (x.members.length + bound.length)
        ({ s with
            oft := ⟨s.oft.candidates.filter fun d => d.file.pair ≠ c.file.pair⟩
            sel := { s.sel with claims := claims }, spl := { s.spl with promised := demand x.taken committed } }, committed)
      (∀ id, s.accepting = some id →
        let x := s.slot id
        let u := (joined id x).1
        let committed := (joined id x).2
        (x.state = .forming ∨ committed + s.mgt.config.closeMargin ≤ capacity x.limit → s.selectionRound = u) ∧
        (x.state = .opened → capacity x.limit < committed + s.mgt.config.closeMargin →
          s.selectionRound = State.bump
            { u.setSlot id { x with state := .closing, ageDeadline := none } with pvw := { s.pvw with
                items := putItem
                  ⟨id, s.mgt.config.epoch, x.seq, .closing, x.primaryKey.getD 0, fillOf x.e, x.members.length⟩ s.pvw.items
                timer := s.pvw.timer.filter (· ≤ s.now) } } .closesByRoom)) ∧
      (s.accepting = none →
        let id := if s.pkb.slotA.state = .free then SlotId.a else SlotId.b
        let x : Slot := { state := .forming, seq := s.pkb.nextSeq, tentativeKey := some key, limit := s.mgt.config.packLimit,
                          commitPoint := some 0 }
        s.selectionRound = (joined id x).1.setSlot id x))

/-- The score of an eligible candidate (R77): A + P + G, in 128 to 1,023. -/
def Obligations.ScoreSum : Prop :=
  ∀ (s : State) (c : Candidate) (n : Nat), s.score? c = some n →
    ∃ a, (a = 512 ∨ a = 320 ∨ a = 128) ∧ s.eligible c = some a ∧
      n = a + 96 * (if c.file.cls ≤ 3 then c.file.cls else 3) + min (s.ageOf c / 2) 223 ∧ 128 ≤ n ∧ n ≤ 1023

/-! ### The peer view -/

/-- BEACON: the entry of its sender, and it alone, is written whole (R59). Stated where no yield is called for: the state is not OPEN, or no pack
is OPEN here, or the keys differ, or this station's fill is the larger one, or the fills are equal and its number the lower (R67). -/
def Obligations.BeaconWrites : Prop :=
  ∀ (f : Frame) (sender : Station) (phase : PackPhase) (key : Word64) (fill : Nat) (s : State),
    s.accepts 0x44#8 f sender → readBeacon f sender = some (phase, key, fill) → s.atRest →
    (phase = .opened → ∀ id, s.accepting = some id → (s.slot id).state = .opened → (s.slot id).primaryKey = some key →
      ¬ (fillOf (s.slot id).e < fill ∨ (fillOf (s.slot id).e = fill ∧ sender.val < s.lif.station.val))) →
    ∃ table,
      exec (.beacon f) s = .next (State.bump
        { s.begin.bump .framesAccepted with pvw := { s.pvw with table := table } } .beaconsHeard) ∧
      (∀ y, y ∈ table ↔ y = ⟨sender, phase, key, fill, s.mgt.clock⟩ ∨ (y ∈ s.pvw.table ∧ y.station ≠ sender))

/-- An OPEN BEACON of this station's own key, with the larger fill or with an equal fill and the lower station number, makes the OPEN pack
yield (R67, R69): CLOSING, its age deadline dropped, a CLOSING beacon made, which stops the beacon timer while it waits,
unless its expiry is due at this reading (log entry 30). -/
def Obligations.BeaconYields : Prop :=
  ∀ (f : Frame) (sender : Station) (key : Word64) (fill : Nat) (id : SlotId) (s : State),
    s.accepts 0x44#8 f sender → readBeacon f sender = some (.opened, key, fill) → s.holderFull →
    s.accepting = some id → (s.slot id).state = .opened → (s.slot id).primaryKey = some key →
    s.mgt.run = .run ∨ s.mgt.run = .quiescing → s.closeReady id = false →
    let x := s.slot id
    (fillOf x.e < fill ∨ (fillOf x.e = fill ∧ sender.val < s.lif.station.val)) →
    ∃ t, exec (.beacon f) s = .next t ∧
      t.pkb = (s.setSlot id { x with state := .closing, ageDeadline := none }).pkb ∧
      t.pvw.items = putItem ⟨id, s.mgt.config.epoch, x.seq, .closing, key, fillOf x.e, x.members.length⟩ s.pvw.items ∧
      t.pvw.timer = s.pvw.timer.filter (· ≤ s.now) ∧ t.pvw.sweepAt = s.pvw.sweepAt ∧
      t.peer? sender = some ⟨sender, .opened, key, fill, s.mgt.clock⟩ ∧
      (∀ st, st ≠ sender → t.peer? st = s.peer? st) ∧
      (∀ k, t.count k = if k = .framesAccepted ∨ k = .beaconsHeard ∨ k = .yields ∨ k = .closesByYield
        then saturatingNext (s.count k) else s.count k) ∧
      t.lif = s.lif ∧ t.oft = s.oft ∧ t.sel = s.sel ∧ t.fen = s.fen ∧ t.spl = s.spl ∧ t.drn = s.drn ∧ t.aru = s.aru ∧
      t.mgt = s.mgt ∧ t.mem = s.mem

/-- The timers of the clock. PEER_SWEEP (R61): the entries stale at that moment, and no others, leave and are counted. SWEEP_TIMER in RUN (R74):
a selection round is run. Each next expiry of the two is a second later. BEACON_TIMER (R65): its expiry makes a beacon of the accepting pack,
and the timer stays stopped. Before its moment each command has no effect (log entry 23). -/
def Obligations.ClockTimers : Prop :=
  ∀ (now e : Nat) (s : State), s.mgt.clock = some now → s.holderFull →
    let fresh (y : PeerEntry) : Bool := match y.lastHeard with
      | some h => now - h < 3 * s.mgt.config.beaconSecs * 1000
      | none => false
    let nextSecond := (now / 1000 + 1) * 1000
    (s.pvw.sweepAt = some e → s.roundsHeld → s.quietNow = false →
      (e ≤ now → exec .peerSweep s = .next (State.bumpBy
        { s.begin with pvw := { s.pvw with table := s.pvw.table.filter fresh, sweepAt := some nextSecond } }
        .peerEntriesExpired (s.pvw.table.countP fun y => !fresh y))) ∧
      (now < e → exec .peerSweep s = .next s.begin)) ∧
    (s.sel.sweepAt = some e →
      (e ≤ now → s.mgt.run = .run →
        exec .sweepTimer s = .next (State.selectionRound { s.begin with sel := { s.sel with sweepAt := some nextSecond } })) ∧
      (now < e ∨ s.mgt.run ≠ .run → exec .sweepTimer s = .next s.begin)) ∧
    (∀ id, s.pvw.timer = some e → s.mgt.run = .run ∨ s.mgt.run = .quiescing →
      s.accepting = some id → (s.slot id).state = .opened ∨ (s.slot id).state = .closing →
      let x := s.slot id
      let item : BeaconItem := ⟨id, s.mgt.config.epoch, x.seq, if x.state = .opened then .opened else .closing, x.primaryKey.getD 0,
        fillOf x.e, x.members.length⟩
      (e ≤ now → exec .beaconTimer s = .next
        { s.begin with pvw := { s.pvw with timer := none, items := putItem item s.pvw.items } }) ∧
      (now < e → exec .beaconTimer s = .next s.begin))

/-! ### Members and their data -/

/-- WITHDRAW of a live member (R112, R114, R137, R138): a GRANTED member leaves the fetch order queue, a FETCHING one its fetch slot, and both,
like a DONE one, turn VOID(WITHDRAWN) in their place; in a CLOSED or ENDING slot the WITHDRAW is late and changes no record. -/
def Obligations.WithdrawMember : Prop :=
  ∀ (f : Frame) (sender : Station) (ticket : Word32) (r : MemberRef) (m : Member) (s : State),
    let p : FilePair := ⟨sender, ticket⟩
    s.accepts 0x22#8 f sender → readWithdraw f sender = some ticket → s.holderFull →
    s.candidate? p = none → s.claim? p = none → s.liveMember p = some r → s.member? r = some m →
    let a := s.begin.bump .framesAccepted
    let void (u : State) : State := u.modMember r fun m => { m with state := .void .withdrawn }
    ((s.slot r.slot).state = .opened → (s.slot r.slot).segmentOpen →
      (m.state = .done → exec (.withdraw f) s = .next ((void a).bump .doneMembersWithdrawn)) ∧
      (m.state = .granted → exec (.withdraw f) s = .next
        ((void { a with fen := { s.fen with queue := s.fen.queue.filter fun q => q ≠ r } }).bump .withdrawnBeforeFetch)) ∧
      (∀ i, m.state = .fetching → s.fetchOf r = some i → s.fen.queue = [] → exec (.withdraw f) s = .next
        ((void { a with fen := { s.fen with
            slots := s.fen.slots.set i.val none i.isLt, items := s.fen.items.filter fun j => j ≠ i } }).bump .withdrawnDuringFetch))) ∧
    ((s.slot r.slot).state = .closed ∨ (s.slot r.slot).state = .ending →
      exec (.withdraw f) s = .next (a.bump .lateWithdraws))

/-- An answer to something this station has not asked for is stray (R88, R128): a REFUSE naming this station for a pair that is not pending, and a
DATA addressed to this station for which no fetch slot is RECEIVING. It is counted and changes nothing else. -/
def Obligations.StrayAnswers : Prop :=
  ∀ (f : Frame) (sender : Station) (s : State), s.holderFull → s.quietNow = false →
    (∀ ticket reason, s.accepts 0x24#8 f sender → readRefuse f sender = some (ticket, s.lif.station, reason) →
      s.claim? ⟨sender, ticket⟩ = none →
      exec (.refuse f) s = .next ((s.begin.bump .framesAccepted).bump .strayRefusals)) ∧
    (∀ d, s.accepts 0x25#8 f sender → readData f sender = some (s.lif.station, d) →
      (∀ (i : Fin 4) (x : Fetch) (e : Nat), s.fen.slots[i] = some x → x.phase = .receiving e → x.pair ≠ ⟨sender, d.ticket⟩) →
      exec (.data f) s = .next ((s.begin.bump .framesAccepted).bump .strayData))

/-- DATA that is accepted and is not the last (R129, R130): each payload byte goes to its own byte of the member's data cells and no other byte
of the memory changes; the running CRC, the bytes received and the deadline move on. File byte y of a member whose head is at usable number h
is byte y mod 512 of the usable cell h + 1 + floor(y / 512), in the buffer bound to that cell's segment (R2, R130). -/
def Obligations.DataAccepted : Prop :=
  (∀ (f : Frame) (sender : Station) (d : DataBody) (i : Fin 4) (x : Fetch) (s : State),
    s.accepts 0x25#8 f sender → readData f sender = some (s.lif.station, d) → s.holderFull → s.quietNow = false →
    s.receivingSlot ⟨sender, d.ticket⟩ = some (i, x) → d.offset = x.received → d.offset + d.payload.length ≤ x.size → d.last = false →
    ∃ mem,
      exec (.data f) s = .next (State.bump
        { s.begin.bump .framesAccepted with
          mem := mem
          fen := { s.fen with slots := s.fen.slots.set i.val (some
            { x with
              received := d.offset + d.payload.length, running := crcRun x.running d.payload,
              phase := .receiving (s.now + s.mgt.config.fetchTimeout) }) i.isLt } } .dataAccepted) ∧
      (∀ j b a, d.payload[j]? = some b → s.fileByteAddr x.member.slot x.headN (d.offset + j) = some a → mem.read a = b) ∧
      (∀ a, (∀ j, j < d.payload.length → s.fileByteAddr x.member.slot x.headN (d.offset + j) ≠ some a) →
        mem.read a = s.mem.read a)) ∧
  (∀ (s : State) (id : SlotId) (h y : Nat) (b : Fin 64),
    let p := physicalCell (h + 1 + y / 512)
    s.bufferOf id (p / 2048) = some b →
    s.fileByteAddr id h y = some (1048576 * b.val + 512 * (p % 2048) + y % 512))

/-- The last DATA (R131, R132): with the offered check value the member turns DONE and the rest of its last data cell is zero; with another, it
turns VOID(CHECKSUM) and is released. The fetch slot becomes FREE. -/
def Obligations.DataCompletes : Prop :=
  ∀ (f : Frame) (sender : Station) (d : DataBody) (i : Fin 4) (x : Fetch) (s : State),
    s.accepts 0x25#8 f sender → readData f sender = some (s.lif.station, d) → s.holderFull →
    s.receivingSlot ⟨sender, d.ticket⟩ = some (i, x) → d.offset = x.received → d.offset + d.payload.length = x.size → d.last = true →
    (s.slot x.member.slot).state = .opened → (s.slot x.member.slot).segmentOpen → s.fen.queue = [] → s.aru.releases.length < 8200 →
    let freed : Fen := { s.fen with
      slots := s.fen.slots.set i.val none i.isLt, items := s.fen.items.filter fun j => j ≠ i }
    let a := s.begin.bump .framesAccepted
    ∃ mem,
      (~~~ (crcRun x.running d.payload) = x.crc → exec (.data f) s = .next (State.bump (State.bump
        (State.modMember { a with mem := mem, fen := freed } x.member fun m => { m with state := .done }) .dataAccepted) .membersDone)) ∧
      (~~~ (crcRun x.running d.payload) ≠ x.crc → exec (.data f) s = .next (State.bump (State.bump (State.bump
        (State.modMember
          { a with mem := mem, fen := freed, aru := { s.aru with releases := s.aru.releases ++ [⟨x.pair, .checksum⟩] } } x.member
          fun m => { m with state := .void .checksum, released := true }) .dataAccepted) .checksumVoids) .releasesQueued)) ∧
      (∀ j b a, d.payload[j]? = some b → s.fileByteAddr x.member.slot x.headN (d.offset + j) = some a → mem.read a = b) ∧
      (∀ y a, ~~~ (crcRun x.running d.payload) = x.crc → x.size ≤ y → y < 512 * ((x.size + 511) / 512) →
        s.fileByteAddr x.member.slot x.headN y = some a → mem.read a = 0) ∧
      (∀ a, (∀ y, d.offset ≤ y → y < 512 * ((x.size + 511) / 512) → s.fileByteAddr x.member.slot x.headN y ≠ some a) →
        mem.read a = s.mem.read a)

/-- The ends of a fetch with VOID(FETCH): the gap, overrun and short checks of a DATA, in this order, and the deadline (R129, R133, R134,
R136). Nothing is written, the fetch slot becomes FREE, and the file is released with reason FETCH. A FETCH_TIMEOUT before the deadline has
no effect (log entry 23). -/
def Obligations.FetchVoided : Prop :=
  ∀ (f : Frame) (sender : Station) (d : DataBody) (i : Fin 4) (x : Fetch) (s : State),
    s.holderFull → (s.slot x.member.slot).state = .opened → (s.slot x.member.slot).segmentOpen → s.fen.queue = [] →
    s.aru.releases.length < 8200 →
    let voided (u : State) (k : Ctr) : State := State.bump (State.bump
      (State.modMember
        { u with
          fen := { s.fen with slots := s.fen.slots.set i.val none i.isLt, items := s.fen.items.filter fun j => j ≠ i }
          aru := { s.aru with releases := s.aru.releases ++ [⟨x.pair, .fetch⟩] } } x.member
        fun m => { m with state := .void .fetch, released := true }) k) .releasesQueued
    let a := s.begin.bump .framesAccepted
    (s.accepts 0x25#8 f sender → readData f sender = some (s.lif.station, d) → s.receivingSlot ⟨sender, d.ticket⟩ = some (i, x) →
      (d.offset ≠ x.received → exec (.data f) s = .next (voided a .fetchGaps)) ∧
      (d.offset = x.received → x.size < d.offset + d.payload.length → exec (.data f) s = .next (voided a .fetchOverruns)) ∧
      (d.offset = x.received → d.offset + d.payload.length < x.size → d.last = true →
        exec (.data f) s = .next (voided a .fetchShorts))) ∧
    (∀ now e, s.fen.slots[i] = some x → x.phase = .receiving e → s.mgt.clock = some now →
      (e ≤ now → exec (.fetchTimeout i) s = .next (voided s.begin .fetchTimeouts)) ∧
      (now < e → exec (.fetchTimeout i) s = .next s.begin))

/-! ### The transmit holder -/

/-- MEDIUM_TAKES_FRAME, and the 16th MEDIUM_REFUSES_FRAME of a frame (R34-R37): the frame leaves and is counted, or is dropped and counted, and
the arbiter fills the EMPTY holder by its preference: the oldest release, else the front FETCH, else, in RUN and QUIESCING, the WAITING claim,
else the front beacon; else the holder stays EMPTY. A beacon taken for the accepting pack starts the beacon timer; one taken for another pack
makes a beacon of the accepting pack, if that is OPEN or CLOSING (R63), which stops the timer unless its expiry is due at this
reading (log entry 30). Stated with no candidate to take and QUIET not due afterwards (for that, see QuietEntered). -/
def Obligations.HolderEmptied : Prop :=
  ∀ (took : Bool) (h : HeldFrame) (s : State),
    s.lif.holder = some h → (took = false → h.refusals = 15) → s.noneToAdmit → s.mgt.run ≠ .selftest →
    let command : Instr := if took then .mediumTakesFrame else .mediumRefusesFrame
    let left : State :=
      if took then State.bump { s.begin with lif := { s.lif with holder := none }, emitted := [.frame h.bytes] } .framesSent
      else State.bump { s.begin with lif := { s.lif with holder := none } } .transmitDrops
    let holding (u : State) (bytes : List Byte) : State := { u with lif := { s.lif with holder := some ⟨bytes, 0⟩ } }
    let st := s.lif.station
    let sending := s.mgt.run = .run ∨ s.mgt.run = .quiescing
    let unfinished := s.mgt.run = .quiescing → ∃ id, (s.slot id).state ≠ .free
    (∀ r rest, s.aru.releases = r :: rest → unfinished ∨ rest ≠ [] →
      exec command s = .next
        ((holding { left with aru := { s.aru with releases := rest } } (releaseFrame st r)).bump .releasesSent)) ∧
    (∀ i rest x, s.aru.releases = [] → s.fen.items = i :: rest → s.fen.slots[i] = some x → unfinished →
      exec command s = .next
        ((holding
          { left with fen := { s.fen with
              items := rest
              slots := s.fen.slots.set i.val (some { x with phase := .receiving (s.now + s.mgt.config.fetchTimeout) }) i.isLt } }
          (fetchFrame st x.pair)).bump .fetchesSent)) ∧
    (∀ c id, s.aru.releases = [] → s.fen.items = [] → sending → unfinished → s.sel.claims.find? Claim.isWaiting = some c →
      c.slot = some id →
      exec command s = .next
        ((holding
          { left with sel := { s.sel with claims := s.sel.claims.map fun d =>
              if d.isWaiting && d.file.pair = c.file.pair then { d with phase := .sent (s.now + s.mgt.config.claimTimeout) } else d } }
          (claimFrame st c.file.pair (s.slot id).seq)).bump .claimsSent)) ∧
    (∀ x rest, s.aru.releases = [] → s.fen.items = [] → sending → unfinished → s.sel.claims.find? Claim.isWaiting = none →
      s.pvw.items = x :: rest →
      (∀ id, s.accepting = some id → x.slot = id → x.seq = (s.slot id).seq → x.phase.holding = true →
        exec command s = .next
          (holding
            { left with pvw := { s.pvw with items := rest, timer := some (s.now + s.mgt.config.beaconSecs * 1000) } }
            (beaconFrame st x))) ∧
      ((∀ id, s.accepting = some id → (s.slot id).state = .forming ∧ ¬ (x.slot = id ∧ x.seq = (s.slot id).seq)) →
        exec command s = .next (holding { left with pvw := { s.pvw with items := rest } } (beaconFrame st x))) ∧
      (∀ id, s.accepting = some id → (s.slot id).state = .opened ∨ (s.slot id).state = .closing →
        ¬ (x.slot = id ∧ x.seq = (s.slot id).seq) →
        let y := s.slot id
        let item : BeaconItem := ⟨id, s.mgt.config.epoch, y.seq, if y.state = .opened then .opened else .closing,
          y.primaryKey.getD 0, fillOf y.e, y.members.length⟩
        exec command s = .next
          (holding { left with pvw := { s.pvw with items := putItem item rest, timer := s.pvw.timer.filter (· ≤ s.now) } }
            (beaconFrame st x)))) ∧
    (s.aru.releases = [] → s.fen.items = [] →
      (¬ sending ∨ (unfinished ∧ s.sel.claims.find? Claim.isWaiting = none ∧ s.pvw.items = [])) →
      exec command s = .next left)

/-- MEDIUM_REFUSES_FRAME (R34): below the 16th refusal the frame stays; at the 16th it is dropped and counted, which is stated here for CONFIG,
QUIET and HALTED with nothing ready and in HolderEmptied for every run state. Neither of the medium's answers does anything to an EMPTY holder
(log entry 23). -/
def Obligations.MediumRefuses : Prop :=
  ∀ (s : State),
    (s.lif.holder = none → exec .mediumRefusesFrame s = .next s.begin ∧ exec .mediumTakesFrame s = .next s.begin) ∧
    (∀ h, s.lif.holder = some h → h.refusals < 15 →
      exec .mediumRefusesFrame s = .next
        { s.begin with lif := { s.lif with holder := some { h with refusals := h.refusals + 1 } } }) ∧
    (∀ h, s.lif.holder = some h → h.refusals = 15 → s.aru.releases = [] → s.fen.items = [] →
      (s.mgt.run = .config ∨ s.mgt.run = .quiet ∨ s.mgt.run = .halted) →
      exec .mediumRefusesFrame s = .next
        (State.bump { s.begin with lif := { s.lif with holder := none } } .transmitDrops))

/-! ### Closing -/

/-- AGE_DEADLINE, CLOSE_NOW and QUIESCE on an OPEN pack that cannot reach CLOSED at once (R109-R111, R203): the pack goes to CLOSING once, its
age deadline is dropped, the cause is counted, and a CLOSING beacon is made, which stops the beacon timer while it waits, unless its
expiry is due at this reading (log entry 30). An AGE_DEADLINE before its moment has no effect (log entry 23). -/
def Obligations.PackCloses : Prop :=
  ∀ (now e : Nat) (id : SlotId) (form : ModeForm) (params : List Byte) (s : State),
    s.accepting = some id → (s.slot id).state = .opened → s.closeReady id = false → s.holderFull →
    s.mgt.clock = some now → (s.slot id).ageDeadline = some e → s.mgt.restarting = false →
    let x := s.slot id
    let item : BeaconItem := ⟨id, s.mgt.config.epoch, x.seq, .closing, x.primaryKey.getD 0, fillOf x.e, x.members.length⟩
    let closed (u : State) (k : Ctr) : State :=
      State.bump { u.setSlot id { x with state := .closing, ageDeadline := none } with
        pvw := { s.pvw with items := putItem item s.pvw.items, timer := s.pvw.timer.filter (· ≤ s.now) } } k
    (s.mgt.run = .run ∨ s.mgt.run = .quiescing → e ≤ now → exec .ageDeadline s = .next (closed s.begin .closesByAge)) ∧
    (now < e → exec .ageDeadline s = .next s.begin) ∧
    (s.mgt.run = .run → exec (.closeNow form params) s = .next ((closed s.begin .closesByCommand).answer .done [])) ∧
    (s.mgt.run = .run → exec (.quiesce form params) s = .next
      ((closed { s.begin with mgt := { s.mgt with run := .quiescing }, sel := { s.sel with sweepAt := none } } .closesByQuiesce).answer
        .done []))

/-- The entry of an OPEN pack into CLOSING when its close condition holds (R111, R115): it goes on to CLOSED with its manifest at E, one entry
per member, and the length of R4; the lowest-numbered FREE buffers are bound to the segments up to the manifest's last (R144), and no segment
is left committable (R148). Stated for CLOSE_NOW. A DONE member's entry says data present whether or not its head segment has committed by then:
the model's inference from R19 and R21 (log entry 3). -/
def Obligations.PackCloseCompletes : Prop :=
  ∀ (id : SlotId) (form : ModeForm) (params : List Byte) (s : State),
    s.accepting = some id → (s.slot id.other).state.accepting = false → (s.slot id).state = .opened → s.closeReady id = true →
    s.mgt.run = .run → s.mgt.restarting = false → s.holderFull → s.oft.candidates = [] →
    let x := s.slot id
    let free := (List.finRange 64).filter fun i => (s.buffer i).state = .free
    ∃ t mf, exec (.closeNow form params) s = .next t ∧
      (t.slot id).state = .closed ∧ (t.slot id).manifest = some mf ∧ (t.slot id).e = x.e ∧
      (t.slot id).members.map Member.file = x.members.map Member.file ∧
      mf.headN = x.e ∧
      mf.entries = x.members.map (fun m =>
        { file := m.file, state := m.state, carried := m.carried, dataPresent := m.dataPresent || decide (m.state = .done),
          headN := m.headN }) ∧
      mf.closeTime = s.timestamp ∧ mf.packLength = seg (x.e + mc x.members.length - 1) + 1 ∧
      (t.slot id).taken = max x.taken mf.packLength ∧
      (∀ (j : Nat) (i : Fin 64), j < mf.packLength - x.taken → free[j]? = some i → (t.buffer i).bound = some (id, x.taken + j)) ∧
      (∀ i : Fin 64, (∀ j, j < mf.packLength - x.taken → free[j]? ≠ some i) → (t.buffer i).bound = (s.buffer i).bound) ∧
      t.committable id = none ∧
      t.slot id.other = s.slot id.other ∧ t.spl.promised = 0 ∧ t.accepting = none ∧
      t.pvw = { s.pvw with
        items := putItem ⟨id, s.mgt.config.epoch, x.seq, .closed, x.primaryKey.getD 0, fillOf x.e, x.members.length⟩ s.pvw.items
        timer := none } ∧
      t.count .closesByCommand = saturatingNext (s.count .closesByCommand) ∧
      t.lif = s.lif ∧ t.oft = s.oft ∧ t.sel = s.sel ∧ t.fen = s.fen ∧ t.aru = s.aru

/-- QUIESCE and CLOSE_NOW with no OPEN pack close nothing and are answered DONE (R110, R203), and QUIET is entered (R202), its own beacons gone
(R66): at QUIESCE with both slots FREE and no release waiting, when the last release is taken, and when the last slot becomes FREE. -/
def Obligations.QuietEntered : Prop :=
  (∀ (form : ModeForm) (params : List Byte) (s : State),
    s.mgt.run = .run → s.mgt.restarting = false → s.holderFull → (∀ id, s.accepting = some id → (s.slot id).state ≠ .opened) →
    exec (.closeNow form params) s = .next (s.begin.answer .done []) ∧
    ((∃ id, (s.slot id).state ≠ .free) ∨ s.aru.releases ≠ [] →
      exec (.quiesce form params) s = .next (State.answer
        { s.begin with mgt := { s.mgt with run := .quiescing }, sel := { s.sel with sweepAt := none } } .done [])) ∧
    ((∀ id, (s.slot id).state = .free) → s.aru.releases = [] →
      exec (.quiesce form params) s = .next (State.answer
        { s.begin with
          mgt := { s.mgt with run := .quiet }, sel := { s.sel with sweepAt := none }
          pvw := { s.pvw with items := [], timer := none } } .done []))) ∧
  (∀ (h : HeldFrame) (r : Release) (s : State),
    s.mgt.run = .quiescing → (∀ id, (s.slot id).state = .free) → s.aru.releases = [r] → s.lif.holder = some h →
    exec .mediumTakesFrame s = .next (State.bump (State.bump
      { s.begin with
        lif := { s.lif with holder := some ⟨releaseFrame s.lif.station r, 0⟩ }, emitted := [.frame h.bytes]
        aru := { s.aru with releases := [] }, mgt := { s.mgt with run := .quiet }
        pvw := { s.pvw with items := [], timer := none } } .framesSent) .releasesSent)) ∧
  (∀ (c : CurrentPack) (s : State),
    s.mgt.run = .quiescing → s.drn.current = some c → s.drn.window = [.packEnd] →
    s.holderFull → s.aru.releases = [] → (s.slot c.slot).state = .ending → (s.slot c.slot.other).state = .free →
    ∃ t r, exec (.stored (le 4 c.epoch.toNat ++ le 4 c.seq.toNat ++ le 4 0xFFFFFFFF)) s = .next t ∧
      t.mgt = { s.mgt with run := .quiet, records := s.mgt.records ++ [r] } ∧ t.slot c.slot = {} ∧
      t.pvw = { s.pvw with items := [], timer := none })

/-! ### Commit -/

/-- When a segment commits (R147, R148): the conditions of R147, the run of commits of one test, after which no segment is committable; and the
test at the settling of a member by its last DATA. -/
def Obligations.CommitTest : Prop :=
  (∀ (s : State) (id : SlotId),
    let x := s.slot id
    (∀ k b, s.committable id = some (k, b) ↔
      x.commitPoint = some k ∧ (x.state = .opened ∨ x.state = .closing ∨ x.state = .closed) ∧
      (∀ m ∈ x.members, seg m.headN ≤ k → k ≤ seg (m.headN + m.footprint - 1) → m.state = .done ∨ ∃ why, m.state = .void why) ∧
      (2047 * k + 2046 ≤ x.e ∨ ∃ mf, x.manifest = some mf ∧ k < mf.packLength) ∧ s.bufferOf id k = some b) ∧
    (s.committable id = none → s.testCommit id = s) ∧
    (∀ k b, s.committable id = some (k, b) → s.testCommit id = (s.commitSegment id k b).testCommit id) ∧
    (s.testCommit id).committable id = none) ∧
  (∀ (f : Frame) (sender : Station) (d : DataBody) (i : Fin 4) (x : Fetch) (s : State),
    s.accepts 0x25#8 f sender → readData f sender = some (s.lif.station, d) → s.receivingSlot ⟨sender, d.ticket⟩ = some (i, x) →
    d.offset = x.received → d.offset + d.payload.length = x.size → d.last = true → (s.slot x.member.slot).state = .opened →
    s.holderFull → s.noneToAdmit →
    ∃ t, exec (.data f) s = .next t ∧ t.committable x.member.slot = none)

/-- What a commit writes (R12, R14-R20, R149, R150), cell by cell, in the buffer of the segment and nowhere else: the pack head in segment 0, each
member head that lies in it, a DONE member's data as it was, the fill pattern in a VOID member's data cells, the manifest's cells, the fill
after the manifest, and the tail with the CRC of the cells it leaves. For a pack laid out as R4 and R6 have it. -/
def Obligations.CommitWrites : Prop :=
  ∀ (s : State) (id : SlotId) (k : Nat) (b : Fin 64) (key time : Word64),
    let x := s.slot id
    let epoch := s.mgt.config.epoch
    let t := s.commitSegment id k b
    let before (n : Nat) := s.mem.readRange (cellAddr b (cellOf n)) 512
    let cell (n : Nat) := t.mem.readRange (cellAddr b (cellOf n)) 512
    let fill : List Byte := List.replicate 512 0xA5#8
    let lastHere : Bool := match x.manifest with
      | some mf => k + 1 = mf.packLength
      | none => false
    x.laidOut → x.primaryKey = some key → x.openTime = some time →
    (k = 0 → isPackHead (t.mem.readRange (cellAddr b 0) 512) s.lif.station epoch x.seq x.limit key time) ∧
    (∀ i m, x.members[i]? = some m → m.state = .done ∨ (∃ why, m.state = .void why) →
      (seg m.headN = k → isMemberHead (cell m.headN) i m) ∧
      (∀ n, m.headN < n → n < m.headN + m.footprint → seg n = k →
        cell n = if (if seg m.headN = k then m.state = .done else m.dataPresent = true) then before n else fill)) ∧
    (∀ mf j, x.manifest = some mf → j < mc mf.entries.length → seg (x.e + j) = k →
      (j = 0 → isManifestHead (cell x.e) epoch x.seq key mf) ∧
      (∀ c r, j = c + 1 → r < 8 →
        let slot := ((cell (x.e + j)).drop (64 * r)).take 64
        (∀ y, mf.entries[8 * c + r]? = some y → isManifestEntry slot y) ∧
        (mf.entries[8 * c + r]? = none → slot = List.replicate 64 0))) ∧
    (∀ n, lastHere = true → x.e + mc x.members.length ≤ n → seg n = k → cell n = fill) ∧
    isTail (t.mem.readRange (cellAddr b 2047) 512) epoch x.seq k (x.members.countP fun m => seg m.headN = k)
      (crc32 (t.mem.readRange (cellAddr b 0) 1048064)) lastHere ∧
    (∀ a, a < 1048576 * b.val ∨ 1048576 * (b.val + 1) ≤ a → t.mem.read a = s.mem.read a)

/-- What a commit leaves besides (R20, R147, R150, R151, R163, R167): a segment that passes the send-time check if sent as it stands, its buffer
READY, the commit point one higher, data present set for the heads it wrote, and the segment in the drain queue behind its own pack's and every
lower sequence's, ahead of every higher one's. -/
def Obligations.CommitHandsOver : Prop :=
  ∀ (s : State) (id : SlotId) (k : Nat) (b : Fin 64),
    let x := s.slot id
    let t := s.commitSegment id k b
    (k < 2 ^ 32 → sendCheck (t.readBuffer b) = true) ∧
    ((s.buffer b).state ≠ .retired → t.buffer b = ⟨.ready, some (id, k)⟩) ∧ (∀ i, i ≠ b → t.buffer i = s.buffer i) ∧
    t.slot id = { x with
      commitPoint := some (k + 1)
      members := x.members.map fun m => if seg m.headN = k then { m with dataPresent := decide (m.state = .done) } else m } ∧
    t.slot id.other = s.slot id.other ∧
    (∃ front back, t.drn = { s.drn with queue := front ++ ⟨id, x.seq, k, b⟩ :: back } ∧
      (∀ y ∈ front, y.seq.toNat ≤ x.seq.toNat) ∧ (∀ y ∈ back, x.seq.toNat < y.seq.toNat) ∧
      (∀ n : Word32, (front ++ back).filter (fun y => y.seq = n) = s.drn.queue.filter fun y => y.seq = n)) ∧
    (∀ c, t.count c = if c = .segmentsCommitted then saturatingNext (s.count c) else s.count c) ∧
    t.spl.promised = s.spl.promised ∧ t.lif = s.lif ∧ t.oft = s.oft ∧ t.pvw = s.pvw ∧ t.sel = s.sel ∧ t.fen = s.fen ∧ t.aru = s.aru ∧
    t.mgt = s.mgt

/-! ### The drain port -/

/-- READY (R164): a DOWN port goes UP, and on an UP port nothing changes but a counter. The choice that then runs sends a waiting ABANDON first
(R165, R173): in the next step in which no command waits (log entry 32). -/
def Obligations.Ready : Prop :=
  ∀ (s : State), s.holderFull → s.quietNow = false →
    (s.drn.port = .up → exec (.ready []) s = .next (s.begin.bump .repeatedReady)) ∧
    (s.drn.port = .down → exec (.ready []) s = .next (State.bump { s.begin with drn := { s.drn with port := .up } } .portUp)) ∧
    (∀ r, s.drn.port = .up → s.drn.abandon = some r → s.haltDue = false → s.pending = [] →
      step s = .next (State.bump
        { s.begin with
          drn := { s.drn with abandon := none }
          emitted := [.message (.abandon s.lif.station r.epoch r.seq r.stored)] } .abandonsSent))

/-- The next-message choice, row by row (R165-R168, R173): each row's condition and the message it issues, with what changes in the drain
engine and the pool. -/
def Obligations.NextMessage : Prop :=
  ∀ (s : State),
    (s.drn.port = .down → s.nextIssue = none) ∧
    (∀ r, s.drn.port = .up → s.drn.abandon = some r →
      s.nextIssue = some (State.bump
        { s with
          drn := { s.drn with abandon := none }
          emitted := s.emitted ++ [.message (.abandon s.lif.station r.epoch r.seq r.stored)] } .abandonsSent)) ∧
    (∀ x rest key time, s.drn.port = .up → s.drn.abandon = none → s.drn.current = none → s.drn.queue = x :: rest →
      (s.slot x.slot).primaryKey = some key → (s.slot x.slot).openTime = some time →
      s.nextIssue = some (State.bump
        { s with
          drn := { s.drn with current := some ⟨x.slot, s.mgt.config.epoch, (s.slot x.slot).seq, 0, 0, false⟩ }
          emitted := s.emitted ++ [.message (.packStart s.lif.station s.mgt.config.epoch (s.slot x.slot).seq
            (s.slot x.slot).limit key time)] } .packStartsSent)) ∧
    (∀ c x rest, s.drn.port = .up → s.drn.abandon = none → s.drn.current = some c → s.drn.window.length < 4 →
      s.drn.queue = x :: rest → x.slot = c.slot → x.segment = c.next → (s.buffer x.buffer).state = .ready →
      let cells := s.mem.readRange (1048576 * x.buffer.val) 1048576
      (fieldAt cells 1048082 4 = (crc32 (cells.take 1048064)).toNat →
        ∃ t, s.nextIssue = some t ∧
          t.drn = { s.drn with
            queue := rest, window := s.drn.window ++ [.segment c.next], current := some { c with next := c.next + 1 }
            deadline := if s.drn.window = [] then some (s.now + s.mgt.config.drainTimeout) else s.drn.deadline } ∧
          t.emitted = s.emitted ++ [.message (.segment s.lif.station c.epoch c.seq c.next cells)] ∧
          t.buffer x.buffer = ⟨.draining, (s.buffer x.buffer).bound⟩ ∧ (∀ i, i ≠ x.buffer → t.buffer i = s.buffer i) ∧
          t.mem = s.mem ∧ t.pkb = s.pkb ∧ t.count .segmentsSent = saturatingNext (s.count .segmentsSent)) ∧
      (fieldAt cells 1048082 4 ≠ (crc32 (cells.take 1048064)).toNat →
        ∃ (t u : State), s.nextIssue = some t ∧ t = u.abortPack c.slot .damage ∧
          u.drn = { s.drn with queue := rest } ∧ u.buffer x.buffer = ⟨.retired, none⟩ ∧
          (∀ i, i ≠ x.buffer → u.buffer i = s.buffer i) ∧ u.emitted = s.emitted ∧ u.pkb = s.pkb ∧ u.mem = s.mem ∧
          u.count .sendCheckRetirements = saturatingNext (s.count .sendCheckRetirements))) ∧
    (∀ c mf, s.drn.port = .up → s.drn.abandon = none → s.drn.current = some c → s.drn.window.length < 4 → s.drn.queue = [] →
      (s.slot c.slot).manifest = some mf → c.next = mf.packLength → c.endSent = false → (s.slot c.slot).state = .closed →
      ∃ t, s.nextIssue = some t ∧
        t.drn = { s.drn with
          window := s.drn.window ++ [.packEnd], current := some { c with endSent := true }
          deadline := if s.drn.window = [] then some (s.now + s.mgt.config.drainTimeout) else s.drn.deadline } ∧
        t.emitted = s.emitted ++ [.message (.packEnd s.lif.station c.epoch c.seq mf.packLength mf.entries.length)] ∧
        t.slot c.slot = { s.slot c.slot with state := .ending } ∧ t.slot c.slot.other = s.slot c.slot.other ∧
        t.count .packEndsSent = saturatingNext (s.count .packEndsSent))

/-- STORED for the oldest message of the window (R169, R151, R117). A stored segment's
buffer becomes FREE; a stored PACK-END queues the pack's ENDED record and frees its slot. -/
def Obligations.StoredAccepted : Prop :=
  ∀ (c : CurrentPack) (rest : List WindowMsg) (s : State),
    s.drn.current = some c → s.holderFull → s.noneToAdmit →
    s.mgt.run ≠ .quiescing →
    let deadline := if rest = [] then none else some (s.now + s.mgt.config.drainTimeout)
    (∀ k b, k < 0xFFFFFFFF → s.drn.window = .segment k :: rest →
      s.bufferOf c.slot k = some b → (s.buffer b).state = .draining →
      exec (.stored (le 4 c.epoch.toNat ++ le 4 c.seq.toNat ++ le 4 k)) s = .next (State.bump (State.bump
        { s.begin with
          drn := { s.drn with window := rest, deadline := deadline, current := some { c with stored := c.stored + 1 } }
          spl := { s.spl with buffers := s.spl.buffers.set b.val ⟨.free, none⟩ b.isLt } } .storedAccepted) .buffersStored)) ∧
    (∀ mf key open_, s.drn.window = [.packEnd] → (s.slot c.slot).state = .ending → (s.slot c.slot).manifest = some mf →
      (s.slot c.slot).primaryKey = some key → (s.slot c.slot).openTime = some open_ →
      let x := s.slot c.slot
      let record : PackRecord :=
        { station := s.lif.station, epoch := s.mgt.config.epoch, seq := x.seq, outcome := .ended, segments := mf.packLength,
          members := x.members.length, voids := x.members.countP fun m => m.state.isVoid, carriedOut := 0,
          released := x.members.countP Member.released, key := key, openTime := open_, closeTime := mf.closeTime }
      exec (.stored (le 4 c.epoch.toNat ++ le 4 c.seq.toNat ++ le 4 0xFFFFFFFF)) s = .next (State.bump (State.bump
        { s.begin.setSlot c.slot {} with
          drn := { s.drn with window := [], deadline := none, current := none }
          mgt := { s.mgt with records := s.mgt.records ++ [record] } } .storedAccepted) .packsEnded))

/-- A message of the mover that is stray or malformed is counted and nothing more (R162, R169, R171): a STORED that does not name the oldest
message, a FAULT that does not name the current pack, and any message of a bad length, reason or kind. -/
def Obligations.DrainDiscards : Prop :=
  ∀ (s : State),
    (∀ epoch seq number : Word32,
      (∀ c w rest, s.drn.current = some c → s.drn.window = w :: rest → epoch = c.epoch → seq = c.seq →
        ¬ ((w = .packEnd ∧ number = 0xFFFFFFFF#32) ∨ (w = .segment number.toNat ∧ number ≠ 0xFFFFFFFF#32))) →
      exec (.stored (le 4 epoch.toNat ++ le 4 seq.toNat ++ le 4 number.toNat)) s = .next (s.begin.bump .strayStored)) ∧
    (∀ (epoch seq : Word32) (reason : Nat), reason = 1 ∨ reason = 2 →
      (∀ c, s.drn.current = some c → ¬ (epoch = c.epoch ∧ seq = c.seq)) →
      exec (.fault (le 4 epoch.toNat ++ le 4 seq.toNat ++ le 1 reason)) s = .next (s.begin.bump .strayFaults)) ∧
    (∀ fields, fields.length ≠ 12 → exec (.stored fields) s = .next (s.begin.bump .malformedDrainMessages)) ∧
    (∀ fields, (fields.length ≠ 9 ∨ (fieldAt fields 8 1 ≠ 1 ∧ fieldAt fields 8 1 ≠ 2)) →
      exec (.fault fields) s = .next (s.begin.bump .malformedDrainMessages)) ∧
    (∀ fields, fields ≠ [] → exec (.ready fields) s = .next (s.begin.bump .malformedDrainMessages)) ∧
    (∀ message, malformedMessage message = true →
      exec (.unknownDrainMessage message) s = .next (s.begin.bump .malformedDrainMessages))

/-- FAULT(OFFLINE) and DRAIN_TIMEOUT for the current pack (R164, R170-R173): the port is DOWN, the window and the timeout are gone, no pack is
current, and an abandon record with the stored count waits. A DRAIN_TIMEOUT before its deadline has no effect (log entry 23). FAULT(MEDIA)
leaves the port UP and the ABANDON is issued at once. -/
def Obligations.DrainGoesDown : Prop :=
  ∀ (c : CurrentPack) (now e : Nat) (s : State),
    s.drn.current = some c → (s.slot c.slot).state.abortable = true → s.mgt.clock = some now → s.drn.deadline = some e →
    (∃ t queue, exec (.fault (le 4 c.epoch.toNat ++ le 4 c.seq.toNat ++ [2])) s = .next t ∧
      t.drn = ⟨.down, queue, none, [], some ⟨c.epoch, c.seq, c.stored⟩, none⟩ ∧ (∀ q ∈ queue, q.slot ≠ c.slot)) ∧
    (e ≤ now → ∃ t queue, exec .drainTimeout s = .next t ∧
      t.drn = ⟨.down, queue, none, [], some ⟨c.epoch, c.seq, c.stored⟩, none⟩ ∧ (∀ q ∈ queue, q.slot ≠ c.slot)) ∧
    (now < e → exec .drainTimeout s = .next s.begin) ∧
    (s.drn.port = .up → ∃ t queue, exec (.fault (le 4 c.epoch.toNat ++ le 4 c.seq.toNat ++ [1])) s = .next t ∧
      t.drn = ⟨.up, queue, none, [], none, none⟩ ∧ (∀ q ∈ queue, q.slot ≠ c.slot) ∧
      t.emitted = [.message (.abandon s.lif.station c.epoch c.seq c.stored)] ∧
      t.count .mediaFaults = saturatingNext (s.count .mediaFaults) ∧
      t.count .abandonsSent = saturatingNext (s.count .abandonsSent))

/-! ### Aborts and carry-over -/

/-- The abort of a pack with no carry (R177-R179, R183, R187, R189, R190): for every cause, where no member is DONE or the cause plans no carry.
Every member not VOID is released in index order with the cause's reason, the ABORTED record is queued, the slot is FREE, and the pack's buffers
and queued segments are given up; of the claims bound to it a WAITING one is dropped and a SENT one orphaned (R92). Stated where no member of the
other slot waits for a fetch slot, and the list has room. -/
def Obligations.AbortReleases : Prop :=
  ∀ (id : SlotId) (cause : AbortCause) (key open_ : Word64) (s : State),
    (s.slot id).state.abortable = true → (s.slot id).primaryKey = some key → (s.slot id).openTime = some open_ →
    (cause.plansCarry = true → ∀ m ∈ (s.slot id).members, m.state ≠ .done) →
    (∀ c ∈ s.aru.copies, c.target.slot ≠ id) → (∀ r ∈ s.fen.queue, r.slot = id) →
    s.aru.releases.length + (s.slot id).members.length ≤ 8200 →
    let x := s.slot id
    let live := x.members.filter fun m => !m.state.isVoid
    let left (c : Claim) : Option Claim :=
      if c.slot = some id then
        match c.phase with
        | .waiting => none
        | .sent _ => some { c with slot := none }
      else some c
    let t := s.abortPack id cause
    t.slot id = {} ∧ t.slot id.other = s.slot id.other ∧
    t.aru.releases = s.aru.releases ++ live.map (fun m => ⟨m.file.pair, if cause = .restart then .restart else .abort⟩) ∧
    t.aru.copies = s.aru.copies ∧
    t.mgt = { s.mgt with records := s.mgt.records ++ [
      { station := s.lif.station, epoch := s.mgt.config.epoch, seq := x.seq, outcome := .aborted cause,
        segments := match s.drn.current with
          | some c => if c.slot = id then c.stored else 0
          | none => 0
        members := x.members.length, voids := x.members.countP fun m => m.state.isVoid, carriedOut := 0,
        released := x.members.countP Member.released + live.length, key := key, openTime := open_, closeTime := s.timestamp }] } ∧
    (∀ q ∈ t.drn.queue, q.slot ≠ id) ∧ t.sel = { s.sel with claims := s.sel.claims.filterMap left } ∧
    (∀ i, t.buffer i = if s.heldByPack id i = true then ⟨.free, none⟩ else s.buffer i) ∧
    t.count cause.counter = saturatingNext (s.count cause.counter) ∧
    t.lif = s.lif ∧ t.oft = s.oft ∧ t.pkb.nextSeq = s.pkb.nextSeq ∧ t.mem = s.mem

/-- COPY_COMPLETION (R184): the front copy leaves the queue, its member turns DONE and is reported, and the HELD buffers whose segment no
remaining copy's source touches become FREE; stated where another copy with data waits behind it. The copy has moved its member's data: every
data cell of the target extent holds what the source's held, the head cell holds the target's head, and no byte outside the target extent
changes. With no copy running the command has no effect (log entry 23). -/
def Obligations.CopyCompletes : Prop :=
  (∀ (c d : Copy) (rest : List Copy) (s : State),
    (s.aru.copies = [] → exec .copyCompletion s = .next s.begin) ∧
    (s.aru.copies = c :: d :: rest → d.footprint ≠ 1 → (s.slot c.target.slot).state = .opened →
      (s.slot c.target.slot).segmentOpen → s.holderFull → s.noneToAdmit →
      let needed (i : Fin 64) : Bool := match (s.buffer i).bound with
        | some (id, k) => (d :: rest).any fun y => y.source = id && touches y.sourceHead y.footprint k
        | none => false
      exec .copyCompletion s = .next (State.bump
        { (s.begin.modMember c.target fun m => if m.state = .copying then { m with state := .done } else m).moveCopy c with
          aru := { s.aru with copies := d :: rest }
          spl := { s.spl with buffers := Vector.ofFn fun i =>
            if (s.buffer i).state = .held && !needed i then ⟨.free, none⟩ else s.buffer i } } .copiesCompleted))) ∧
  (∀ (c : Copy) (m : Member) (s : State),
    s.member? c.target = some m → c.source ≠ c.target.slot → 1 ≤ c.footprint → m.file.name.length ≤ 200 →
    (∀ i, i < c.footprint → (s.bufferOf c.target.slot (seg (c.targetHead + i))).isSome = true) →
    (∀ i, i < c.footprint → (s.bufferOf c.source (seg (c.sourceHead + i))).isSome = true) →
    (∀ i, 1 ≤ i → i < c.footprint →
      (s.moveCopy c).readCell c.target.slot (c.targetHead + i) = s.readCell c.source (c.sourceHead + i)) ∧
    (s.moveCopy c).readCell c.target.slot c.targetHead = memberHeadCell c.target.index m ∧
    (∀ a, (∀ i b, i < c.footprint → s.bufferOf c.target.slot (seg (c.targetHead + i)) = some b →
        a < cellAddr b (cellOf (c.targetHead + i)) ∨ cellAddr b (cellOf (c.targetHead + i)) + 512 ≤ a) →
      (s.moveCopy c).mem.read a = s.mem.read a))

/-- The end of a carry (R185, R186): every HELD buffer of it becomes FREE, the record held back is queued, and the CARRYING slot is FREE. It ends
with the completion of the last copy; with the WITHDRAW of the last COPYING member, which turns VOID(WITHDRAWN), its copy stopped (with copies
left, the WITHDRAW stops that copy alone and frees the HELD buffers no other needs); and with an abort of the target, whose members are all
given up, its record behind the carry's. -/
def Obligations.CarryEnds : Prop :=
  ∀ (src : SlotId) (r : PackRecord) (s : State),
    (s.slot src).state = .carrying → (s.slot src).record = some r → (s.slot src.other).state ≠ .carrying →
    let tgt := src.other
    let idle : Spl := { s.spl with buffers := Vector.ofFn fun i => if (s.buffer i).state = .held then ⟨.free, none⟩ else s.buffer i }
    (∀ c m, s.aru.copies = [c] → c.target.slot = tgt → s.member? c.target = some m → m.state = .copying →
      (s.slot tgt).state = .opened → (s.slot tgt).segmentOpen → s.holderFull → s.noneToAdmit →
      ∃ t, exec .copyCompletion s = .next t ∧ t.slot src = {} ∧ t.member? c.target = some { m with state := .done } ∧
        t.aru = { s.aru with copies := [] } ∧ t.mgt = { s.mgt with records := s.mgt.records ++ [r] } ∧ t.spl = idle ∧
        (∀ k, t.count k = if k = .copiesCompleted then saturatingNext (s.count k) else s.count k)) ∧
    (∀ f sender ticket ref m, s.accepts 0x22#8 f sender → readWithdraw f sender = some ticket → s.candidate? ⟨sender, ticket⟩ = none →
      s.claim? ⟨sender, ticket⟩ = none → s.liveMember ⟨sender, ticket⟩ = some ref → ref.slot = tgt → s.member? ref = some m →
      m.state = .copying → (s.slot tgt).state = .opened → (s.slot tgt).segmentOpen → s.holderFull → s.noneToAdmit →
      (∀ c ∈ s.aru.copies, c.footprint ≠ 1) →
      let left := s.aru.copies.filter fun c => c.target ≠ ref
      let needed (i : Fin 64) : Bool := match (s.buffer i).bound with
        | some (id, k) => left.any fun y => y.source = id && touches y.sourceHead y.footprint k
        | none => false
      ∃ t, exec (.withdraw f) s = .next t ∧ t.member? ref = some { m with state := .void .withdrawn } ∧
        t.aru = { s.aru with copies := left } ∧ t.mem = s.mem ∧
        (∀ k, t.count k = if k = .framesAccepted ∨ k = .copiesStopped then saturatingNext (s.count k) else s.count k) ∧
        (left = [] → t.slot src = {} ∧ t.mgt = { s.mgt with records := s.mgt.records ++ [r] } ∧ t.spl = idle) ∧
        (∀ d rest, left = d :: rest → t.slot src = s.slot src ∧ t.mgt = s.mgt ∧
          ∀ i, t.buffer i = if (s.buffer i).state = .held && !needed i then ⟨.free, none⟩ else s.buffer i)) ∧
    (∀ cause key open_, (s.slot tgt).state.abortable = true → (s.slot tgt).primaryKey = some key → (s.slot tgt).openTime = some open_ →
      s.aru.copies ≠ [] → (∀ c ∈ s.aru.copies, c.target.slot = tgt) → (∀ q ∈ s.fen.queue, q.slot = tgt) →
      s.aru.releases.length + (s.slot tgt).members.length ≤ 8200 →
      let x := s.slot tgt
      let live := x.members.filter fun m => !m.state.isVoid
      let t := s.abortPack tgt cause
      (∀ id, t.slot id = {}) ∧
      t.aru = { s.aru with
        releases := s.aru.releases ++ live.map fun m => ⟨m.file.pair, if cause = .restart then .restart else .abort⟩
        copies := [] } ∧
      (∃ own, t.mgt = { s.mgt with records := s.mgt.records ++ [r, own] } ∧ own.seq = x.seq ∧ own.outcome = .aborted cause ∧
        own.members = x.members.length ∧ own.voids = (x.members.countP fun m => m.state.isVoid) ∧ own.carriedOut = 0 ∧
        own.released = x.members.countP Member.released + live.length) ∧
      (∀ i, t.buffer i =
        if s.heldByPack tgt i = true ∨ ((s.buffer i).state = .held ∧ (s.buffer i).bound.map Prod.fst = some src) then ⟨.free, none⟩
        else s.buffer i) ∧
      (t.count .copiesStopped).toNat = min (2 ^ 32 - 1) ((s.count .copiesStopped).toNat + s.aru.copies.length))

/-- The abort of a CLOSED or ENDING pack whose one member is DONE, with the other slot OPEN and room there (R178, R180-R183, R190): the member
is placed again in the other slot as a COPYING member, its copy is queued, the buffers its extent touches are HELD, and the slot is CARRYING
with its record held back. That a CARRYING slot keeps its extent end E, which STATUS then reports, is the model's inference (log entry 15). -/
def Obligations.AbortCarries : Prop :=
  ∀ (id : SlotId) (cause : AbortCause) (m : Member) (key open_ : Word64) (s : State),
    let y := s.slot id
    let x := s.slot id.other
    cause.plansCarry = true → y.state = .closed ∨ y.state = .ending → y.primaryKey = some key → y.openTime = some open_ →
    y.members = [m] → m.state = .done → 0 < m.file.size → m.footprint = footprintOf m.file.size →
    (∀ k, seg m.headN ≤ k → k ≤ seg (m.headN + m.footprint - 1) → ∃ i, (s.buffer i).bound = some (id, k) ∧ s.heldByPack id i = true) →
    x.state = .opened → x.segmentOpen → Slot.segmentOpen { x with e := x.e + m.footprint } → s.fen.queue = [] → s.aru.copies = [] →
    x.members.length + (s.boundClaims id.other).length + 1 < 4096 →
    let room := s.roomOf id.other
    x.e + room.q + m.footprint + mc (room.m + room.k + 1) + s.mgt.config.closeMargin ≤ room.u →
    demand x.taken (x.e + room.q + m.footprint + mc (room.m + room.k + 1)) ≤ s.bufferCount .free →
    let t := s.abortPack id cause
    t.slot id = { y with
      state := .carrying, ageDeadline := none, commitPoint := none, members := [], manifest := none
      record := some
        { station := s.lif.station, epoch := s.mgt.config.epoch, seq := y.seq, outcome := .aborted cause,
          segments := match s.drn.current with
            | some c => if c.slot = id then c.stored else 0
            | none => 0
          members := 1, voids := 0, carriedOut := 1, released := if m.released then 1 else 0, key := key, openTime := open_,
          closeTime := s.timestamp } } ∧
    (t.slot id.other).state = .opened ∧ (t.slot id.other).e = x.e + m.footprint ∧
    (t.slot id.other).members = x.members ++ [
      { file := m.file, key := m.key, headN := x.e, footprint := m.footprint, state := .copying, carried := true,
        released := false, dataPresent := false }] ∧
    t.aru.copies = [⟨id, m.headN, m.footprint, ⟨id.other, x.members.length⟩, x.e⟩] ∧ t.aru.releases = s.aru.releases ∧
    t.mgt = s.mgt ∧
    (∀ i k, (s.buffer i).bound = some (id, k) → s.heldByPack id i = true → seg m.headN ≤ k →
      k ≤ seg (m.headN + m.footprint - 1) → t.buffer i = ⟨.held, some (id, k)⟩) ∧
    t.count .membersCarried = saturatingNext (s.count .membersCarried) ∧
    t.count cause.counter = saturatingNext (s.count cause.counter) ∧ t.lif = s.lif ∧ t.oft = s.oft ∧ t.mem = s.mem

/-- The abort of a pack whose members are all DONE and qualify for carry, where the carry is cut off (R179-R183, R189). With no target every member
is released with the cause's reason. With a target whose tests the first member fails, against the buffers FREE after those no offered member
touches, every member is released with FULL. Where the first member passes and the second fails the room test, the first is carried and the
second released with FULL, and the buffers only the second touches become FREE. That a CARRYING slot keeps its E is the model's inference (log
entry 15). -/
def Obligations.CarryCutOff : Prop :=
  ∀ (id : SlotId) (cause : AbortCause) (m : Member) (rest : List Member) (key open_ : Word64) (s : State),
    let y := s.slot id
    let x := s.slot id.other
    cause.plansCarry = true → y.state.abortable = true → y.primaryKey = some key → y.openTime = some open_ → y.members = m :: rest →
    (∀ n ∈ y.members, n.state = .done ∧ ∀ k, seg n.headN ≤ k → k ≤ seg (n.headN + n.footprint - 1) →
      ∃ i, (s.buffer i).bound = some (id, k) ∧ s.heldByPack id i = true) →
    s.aru.copies = [] → (∀ q ∈ s.fen.queue, q.slot = id) → s.aru.releases.length + y.members.length ≤ 8200 →
    let t := s.abortPack id cause
    let touchedBy (ms : List Member) (i : Fin 64) : Bool := match (s.buffer i).bound with
      | some (_, k) => ms.any fun n => touches n.headN n.footprint k
      | none => false
    let record (carried released : Nat) : PackRecord :=
      { station := s.lif.station, epoch := s.mgt.config.epoch, seq := y.seq, outcome := .aborted cause,
        segments := match s.drn.current with
          | some c => if c.slot = id then c.stored else 0
          | none => 0
        members := y.members.length, voids := 0, carriedOut := carried,
        released := y.members.countP Member.released + released, key := key, openTime := open_, closeTime := s.timestamp }
    let noneCarried (reason : ReleaseReason) : Prop :=
      t.slot id = {} ∧ t.slot id.other = x ∧
        t.aru = { s.aru with releases := s.aru.releases ++ y.members.map fun n => ⟨n.file.pair, reason⟩ } ∧
        t.mgt = { s.mgt with records := s.mgt.records ++ [record 0 y.members.length] } ∧
        (∀ i, t.buffer i = if s.heldByPack id i = true then ⟨.free, none⟩ else s.buffer i) ∧
        t.count .carriesWithoutTarget = saturatingNext (s.count .carriesWithoutTarget) ∧ t.mem = s.mem
    let bound := s.sel.claims.filter fun c => c.slot = some id.other
    let q := (bound.map fun c => footprintOf c.file.size).sum
    let free := (List.finRange 64).countP fun i => (s.buffer i).state = .free || (s.heldByPack id i && !touchedBy y.members i)
    (x.state = .closing ∨ x.state = .closed ∨ x.state = .ending ∨
        (x.state = .free ∧ (s.pkb.nextSeq = BitVec.allOnes 32 ∨ 31 ≤ s.mgt.records.length)) → noneCarried .abort) ∧
    (x.state = .opened ∨ x.state = .forming →
      let through := x.e + q + m.footprint + mc (x.members.length + bound.length + 1)
      capacity x.limit < through ∨ 4096 < x.members.length + bound.length + 1 ∨ free < demand x.taken through → noneCarried .full) ∧
    (x.state = .free → s.pkb.nextSeq ≠ BitVec.allOnes 32 → s.mgt.records.length < 31 →
      capacity s.mgt.config.packLimit < m.footprint + mc 1 ∨ free < demand 0 (m.footprint + mc 1) → noneCarried .full) ∧
    (∀ m', rest = [m'] → x.state = .opened → x.segmentOpen → Slot.segmentOpen { x with e := x.e + m.footprint } → s.fen.queue = [] →
      0 < m.file.size → m.footprint = footprintOf m.file.size → x.members.length + bound.length + 1 < 4096 →
      let through := x.e + q + m.footprint + mc (x.members.length + bound.length + 1)
      through + s.mgt.config.closeMargin ≤ capacity x.limit → demand x.taken through ≤ free →
      capacity x.limit < x.e + q + m.footprint + m'.footprint + mc (x.members.length + bound.length + 2) →
      t.slot id = { y with
        state := .carrying, ageDeadline := none, commitPoint := none, members := [], manifest := none, record := some (record 1 1) } ∧
      (t.slot id.other).state = .opened ∧ (t.slot id.other).e = x.e + m.footprint ∧
      (t.slot id.other).members = x.members ++ [
        { file := m.file, key := m.key, headN := x.e, footprint := m.footprint, state := .copying, carried := true,
          released := false, dataPresent := false }] ∧
      t.aru = { s.aru with
        copies := [⟨id, m.headN, m.footprint, ⟨id.other, x.members.length⟩, x.e⟩]
        releases := s.aru.releases ++ [⟨m'.file.pair, .full⟩] } ∧ t.mgt = s.mgt ∧
      (∀ i k, (s.buffer i).bound = some (id, k) → s.heldByPack id i = true →
        (touchedBy [m] i = true → t.buffer i = ⟨.held, some (id, k)⟩) ∧
        (touchedBy [m] i = false → touchedBy [m'] i = true → t.buffer i = ⟨.free, none⟩)) ∧
      t.count .membersCarried = saturatingNext (s.count .membersCarried) ∧
      t.count .carriesWithoutTarget = s.count .carriesWithoutTarget ∧ t.mem = s.mem)

/-! ### The management port -/

/-- An answer and a read of the port (R195, R204, R207): an answer replaces the held response and raises the counters of the exchange; a read
returns the held response and then zeros, or BUSY with none held, leaves it held, and ends a RESTART in progress. That a read of any length, one
that fetches part of the response or none of its bytes included, marks the response read and ends the RESTART is the model's inference from
R195 and R204 (log entry 14). -/
def Obligations.Exchange : Prop :=
  ∀ (s : State),
    (∀ (st : Status) (data : List Byte),
      let t := s.answer st data
      let category : Ctr := match st with
        | .done | .empty => .commandsDone
        | .wrongState | .badMask | .unknown | .short => .commandsRefused
        | .busy => .commandsBusy
      t.mgt = { s.mgt with response := some ⟨st, data, false⟩ } ∧ t.count category = saturatingNext (s.count category) ∧
      (∀ r, s.mgt.response = some r → r.read = false →
        t.count .responsesReplacedUnread = saturatingNext (s.count .responsesReplacedUnread)) ∧
      ((s.mgt.response = none ∨ ∃ r, s.mgt.response = some r ∧ r.read = true) →
        t.count .responsesReplacedUnread = s.count .responsesReplacedUnread) ∧
      (∀ k, k ≠ category → k ≠ .responsesReplacedUnread → t.count k = s.count k) ∧
      t.lif = s.lif ∧ t.oft = s.oft ∧ t.pvw = s.pvw ∧ t.sel = s.sel ∧ t.pkb = s.pkb ∧ t.fen = s.fen ∧ t.spl = s.spl ∧
      t.drn = s.drn ∧ t.aru = s.aru ∧ t.mem = s.mem) ∧
    (∀ n : Nat,
      let bytes : List Byte := match s.mgt.response with
        | some r => r.status.code :: BitVec.ofNat 8 r.data.length :: r.data
        | none => [0x06#8, 0x00#8]
      ∃ out, out.length = n ∧ (∀ i, i < n → out[i]? = some (bytes.getD i 0)) ∧
        exec (.responseRead n) s = .next
          { s.begin with
            mgt := { s.mgt with response := s.mgt.response.map fun r => { r with read := true }, restarting := false }
            emitted := [.readBytes out] })

/-- The judging of the port's writes (R196), row by row of its table: BUSY in SELFTEST and during a RESTART, UNKNOWN, SHORT, WRONG-STATE, and
EMPTY. A refused command is answered and does nothing else; a write of no bytes is no command (R195). -/
def Obligations.WritesJudged : Prop :=
  ∀ (s : State) (params : List Byte) (form : ModeForm) (code mode bank : Byte),
    let known : List Byte := [0x01#8, 0x02#8, 0x03#8, 0x10#8, 0x11#8, 0x20#8, 0x21#8, 0x22#8, 0x23#8, 0x30#8, 0x3F#8]
    let answered (st : Status) : Host.Outcome State Fault Refusal := .next (s.begin.answer st [])
    (s.mgt.run = .selftest ∨ s.mgt.restarting = true →
      exec (.identify params) s = answered .busy ∧ exec (.counters params) s = answered .busy ∧
      exec (.configure params) s = answered .busy ∧ exec (.start params) s = answered .busy ∧
      exec (.closeNow form params) s = answered .busy ∧ exec (.quiesce form params) s = answered .busy ∧
      exec (.resume form params) s = answered .busy ∧ exec (.takeRecord params) s = answered .busy ∧
      exec (.restart params) s = answered .busy ∧
      (code ≠ 0x02#8 → exec (.unknownCommand (code :: params)) s = answered .busy)) ∧
    (s.mgt.run ≠ .selftest → s.mgt.restarting = false →
      (code ∉ known → exec (.unknownCommand (code :: params)) s = answered .unknown) ∧
      (mode.toNat < 1 ∨ 3 < mode.toNat → exec (.unknownCommand (0x20#8 :: mode :: params)) s = answered .unknown) ∧
      exec (.unknownCommand [0x20#8]) s = answered .short ∧
      exec (.counters []) s = answered .short ∧
      (9 < bank.toNat → exec (.counters (bank :: params)) s = answered .unknown) ∧
      (params.length < 43 → exec (.configure params) s = answered .short) ∧
      (43 ≤ params.length → s.mgt.run ≠ .config → exec (.configure params) s = answered .wrongState) ∧
      (s.mgt.run ≠ .config ∨ s.inService < 24 → exec (.start params) s = answered .wrongState) ∧
      (s.mgt.run ≠ .run →
        exec (.closeNow form params) s = answered .wrongState ∧ exec (.quiesce form params) s = answered .wrongState) ∧
      (s.mgt.run ≠ .quiescing → s.mgt.run ≠ .quiet → exec (.resume form params) s = answered .wrongState) ∧
      (s.mgt.records = [] → exec (.takeRecord params) s = answered .empty)) ∧
    exec (.unknownCommand []) s = .next s.begin

/-- IDENTIFY, STATUS and COUNTERS (R197, R198): the pages, field by field, and the counters of each bank in the order of its block's table. -/
def Obligations.PagesAnswered : Prop :=
  ∀ (s : State) (params : List Byte),
    (s.mgt.run ≠ .selftest → s.mgt.restarting = false → ∃ p, exec (.identify params) s = .next (s.begin.answer .done p) ∧
      p.length = 28 ∧ p.take 8 = [0x4C#8, 0x65#8, 0x72#8, 0x77#8, 0x61#8, 0x6C#8, 0x64#8, 0x00#8] ∧
      (p.drop 8).take 5 = [0x50#8, 0x4B#8, 0x34#8, 0x30#8, 0x38#8] ∧ fieldAt p 13 1 = 0x43 ∧ fieldAt p 14 1 = 1 ∧
      fieldAt p 15 1 = s.lif.station.val ∧ fieldAt p 16 1 = 64 ∧ fieldAt p 17 1 = s.inService ∧ fieldAt p 18 2 = 1024 ∧
      fieldAt p 20 1 = 8 ∧ fieldAt p 21 1 = 4 ∧ fieldAt p 22 2 = 4096 ∧ fieldAt p 24 1 = 2 ∧ fieldAt p 25 1 = 32 ∧
      fieldAt p 26 2 = 8200) ∧
    (∃ p, exec (.status params) s = .next (s.begin.answer .done p) ∧ p.length = 30 ∧
      fieldAt p 0 1 = (match s.mgt.run with
        | .selftest => 0 | .config => 1 | .run => 2 | .quiescing => 3 | .quiet => 4 | .halted => 5) ∧
      (∀ id : SlotId, (s.slot id).state ≠ .aborted →
        let off := if id = .a then 1 else 2
        fieldAt p off 1 = (match (s.slot id).state with
          | .free => 0 | .forming => 1 | .opened => 2 | .closing => 3 | .closed => 4 | .ending => 5 | .carrying => 6
          | .aborted => 7)) ∧
      ((s.slot .a).e < 2 ^ 32 → fieldAt p 3 4 = (s.slot .a).e) ∧
      ((s.slot .a).members.length ≤ 4096 → fieldAt p 7 2 = (s.slot .a).members.length) ∧
      ((s.slot .b).e < 2 ^ 32 → fieldAt p 9 4 = (s.slot .b).e) ∧
      ((s.slot .b).members.length ≤ 4096 → fieldAt p 13 2 = (s.slot .b).members.length) ∧
      fieldAt p 15 1 = s.bufferCount .free ∧ fieldAt p 16 1 = s.bufferCount .filling ∧
      fieldAt p 17 1 = s.bufferCount .ready ∧ fieldAt p 18 1 = s.bufferCount .draining ∧
      fieldAt p 19 1 = s.bufferCount .held ∧ fieldAt p 20 1 = s.bufferCount .retired ∧
      (s.spl.promised ≤ 64 → fieldAt p 21 1 = s.spl.promised) ∧
      fieldAt p 22 1 = (match s.drn.port with | .down => 0 | .up => 1) ∧
      (s.drn.window.length ≤ 4 → fieldAt p 23 1 = s.drn.window.length) ∧
      (s.oft.candidates.length ≤ 1024 → fieldAt p 24 2 = s.oft.candidates.length) ∧
      (s.sel.claims.length ≤ 8 → fieldAt p 26 1 = s.sel.claims.length) ∧
      (s.aru.releases.length ≤ 8200 → fieldAt p 27 2 = s.aru.releases.length) ∧
      (s.mgt.records.length ≤ 32 → fieldAt p 29 1 = s.mgt.records.length)) ∧
    (let banks : List (List Ctr) :=
      [ [.framesAccepted, .checkErrors, .malformedFrames, .ownNumberFrames, .framesPassedOver, .framesSent, .transmitDrops],
        [.heldFileOffers, .oversizeOffers, .candidateEvictions, .candidatesTakenElsewhere, .candidatesWithdrawn],
        [.beaconsHeard, .peerEntriesExpired, .yields],
        [.claimsSent, .claimsPlaced, .claimsLost, .claimsRefusedTaken, .claimsRefusedWithdrawn, .claimsRefusedUnknown,
          .claimsWithdrawn, .claimTimeouts, .lateGrants, .abortedClaimGrants, .duplicateGrants, .strayRefusals],
        [.packsOpened, .formsAbandoned, .closesByRoom, .closesByMemberLimit, .closesByAge, .closesByCommand,
          .closesByQuiesce, .closesByYield, .packsEnded, .doneMembersWithdrawn, .lateWithdraws],
        [.fetchesSent, .dataAccepted, .membersDone, .checksumVoids, .fetchGaps, .fetchOverruns, .fetchShorts,
          .fetchTimeouts, .withdrawnBeforeFetch, .withdrawnDuringFetch, .strayData],
        [.segmentsCommitted, .buffersStored, .selfTestRetirements, .sendCheckRetirements],
        [.packStartsSent, .segmentsSent, .packEndsSent, .abandonsSent, .storedAccepted, .strayStored, .mediaFaults,
          .offlineFaults, .strayFaults, .drainTimeouts, .portUp, .repeatedReady, .malformedDrainMessages],
        [.packsAbortedMedia, .packsAbortedOffline, .packsAbortedTimeout, .packsAbortedDamage, .packsAbortedRestart,
          .packsAbortedHalt, .membersCarried, .carriesWithoutTarget, .copiesCompleted, .copiesStopped, .releasesQueued,
          .releasesSent, .releaseOverflows],
        [.commandsDone, .commandsRefused, .commandsBusy, .responsesReplacedUnread, .halts] ]
    ∀ (bank : Nat) (names : List Ctr), s.mgt.run ≠ .selftest → s.mgt.restarting = false → banks[bank]? = some names →
      exec (.counters (BitVec.ofNat 8 bank :: params)) s =
        .next (s.begin.answer .done (names.flatMap fun c => le 4 (s.count c).toNat)))

/-- CONFIGURE in CONFIG (R199, R200): a mask that is one run of ones lets the whole record, with each field set within its range, replace the
one in force, and a different epoch clears the next sequence; any other mask is refused with BAD-MASK and changes nothing. -/
def Obligations.Configure : Prop :=
  ∀ (b : List Byte) (s : State), s.mgt.run = .config → s.mgt.restarting = false → 43 ≤ b.length →
    let within (lo hi n : Nat) : Nat := if n < lo then lo else if hi < n then hi else n
    let c : ConfigRecord :=
      { epoch := BitVec.ofNat 32 (fieldAt b 0 4), baseTime := BitVec.ofNat 64 (fieldAt b 4 8),
        rotation := within 0 63 (fieldAt b 12 1), keyMask := BitVec.ofNat 64 (fieldAt b 13 8),
        packLimit := within 32 16384 (fieldAt b 21 2), closeMargin := fieldAt b 23 2,
        strayAge := within 0 3600 (fieldAt b 25 2), admitFloor := within 0 1023 (fieldAt b 27 2),
        beaconSecs := within 1 60 (fieldAt b 29 1), claimTimeout := within 10 10000 (fieldAt b 30 2),
        pendingMax := within 1 8 (fieldAt b 32 1), fetchTimeout := within 10 10000 (fieldAt b 33 2),
        fetchSlots := within 1 4 (fieldAt b 35 1), packAgeLimit := within 10 86400 (fieldAt b 36 4),
        drainTimeout := within 100 60000 (fieldAt b 40 2), purge := decide (fieldAt b 42 1 ≠ 0) }
    let run := ∃ lo n, lo + n < 64 ∧ ∀ i, i < 64 → (c.keyMask.getLsbD i = true ↔ lo ≤ i ∧ i ≤ lo + n)
    (run → exec (.configure b) s = .next (State.answer
      { s.begin with
        mgt := { s.mgt with config := c }
        pkb := if c.epoch = s.mgt.config.epoch then s.pkb else { s.pkb with nextSeq := 0 } } .done (configBytes c))) ∧
    (¬ run → exec (.configure b) s = .next (s.begin.answer .badMask []))

/-- Entry to RUN. START in CONFIG with at least 24 buffers in service (R49, R201): the record is frozen, the clock starts at 0, every candidate is
keyed, and pending times take their values. RESUME in QUIESCING or QUIET (R203): the sweep timer runs to the next whole second. Stated where the
round that the entry wakes admits nothing. -/
def Obligations.RunEntered : Prop :=
  (∀ (params : List Byte) (s : State),
    s.mgt.run = .config → s.mgt.restarting = false → 24 ≤ s.inService → s.holderFull →
    s.oft.candidates = [] ∨ (s.accepting = none ∧ s.canForm = false) →
    let cfg := s.mgt.config
    exec (.start params) s = .next (State.answer
      { s.begin with
        mgt := { s.mgt with frozen := true, clock := some 0, run := .run }
        oft := ⟨s.oft.candidates.map fun c => { c with
          key := some (affinityKey cfg c.file.tag), firstHeard := some (c.firstHeard.getD 0)
          contest := if c.contest = some .pendingEnd then some (.endsAt (2 * cfg.claimTimeout)) else c.contest }⟩
        pvw := { s.pvw with
          table := s.pvw.table.map fun y => { y with lastHeard := some (y.lastHeard.getD 0) }, sweepAt := some 1000 }
        fen := { s.fen with slots := Vector.replicate 4 none, items := [] }
        sel := { s.sel with sweepAt := some 1000 } } .done [])) ∧
  (∀ (form : ModeForm) (params : List Byte) (now : Nat) (s : State),
    s.mgt.run = .quiescing ∨ s.mgt.run = .quiet → s.mgt.restarting = false → s.mgt.clock = some now → s.holderFull →
    s.oft.candidates = [] ∨ (s.accepting = none ∧ s.canForm = false) →
    exec (.resume form params) s = .next (State.answer
      { s.begin with
        mgt := { s.mgt with run := .run }, sel := { s.sel with sweepAt := some ((now / 1000 + 1) * 1000) } } .done []))

/-- TAKE_RECORD (R205): the oldest record leaves the queue and is returned as 47 bytes. The attention output is asserted while a record is queued
or the run state is HALTED, or a RESTART is on its way straight back there, so the taking of the last one outside HALTED deasserts it (R206). -/
def Obligations.TakeRecord : Prop :=
  (∀ s : State, s.attention = true ↔ s.mgt.records ≠ [] ∨ s.mgt.run = .halted ∨ s.mgt.attentionHeld = true) ∧
  (∀ (params : List Byte) (r : PackRecord) (rest : List PackRecord) (s : State),
    s.mgt.run ≠ .selftest → s.mgt.restarting = false → s.mgt.records = r :: rest → s.holderFull → s.noneToAdmit →
    s.quietNow = false →
    ∃ d, exec (.takeRecord params) s = .next (State.answer { s.begin with mgt := { s.mgt with records := rest } } .done d) ∧
      ((State.answer { s.begin with mgt := { s.mgt with records := rest } } .done d).attention = true ↔
        rest ≠ [] ∨ s.mgt.run = .halted ∨ s.mgt.attentionHeld = true) ∧
      d.length = 47 ∧ fieldAt d 0 1 = r.station.val ∧ fieldAt d 1 4 = r.epoch.toNat ∧ fieldAt d 5 4 = r.seq.toNat ∧
      fieldAt d 9 1 = (if r.outcome = .ended then 1 else 2) ∧
      fieldAt d 10 1 = (match r.outcome with
        | .ended => 0
        | .aborted .media => 1
        | .aborted .offline => 2
        | .aborted .timeout => 3
        | .aborted .damage => 4
        | .aborted .restart => 5
        | .aborted .halt => 6) ∧
      fieldAt d 11 4 = r.segments % 2 ^ 32 ∧ fieldAt d 15 2 = r.members % 2 ^ 16 ∧ fieldAt d 17 2 = r.voids % 2 ^ 16 ∧
      fieldAt d 19 2 = r.carriedOut % 2 ^ 16 ∧ fieldAt d 21 2 = r.released % 2 ^ 16 ∧ fieldAt d 23 8 = r.key.toNat ∧
      fieldAt d 31 8 = r.openTime.toNat ∧ fieldAt d 39 8 = r.closeTime.toNat)

/-- RESTART outside SELFTEST (R57, R72, R97, R142, R158, R175, R192, R204). The attention output is then asserted while a record is queued, and one
that goes to CONFIG and straight back to HALTED leaves it asserted (R206; the field that says so is the model's, log entry 31). -/
def Obligations.Restart : Prop :=
  ∀ (params : List Byte) (s : State), s.mgt.run ≠ .selftest → s.mgt.restarting = false →
    let back := s.inService < 24 ∧ (s.mgt.run = .halted ∨ s.mgt.attentionHeld = true)
    ∃ t, exec (.restart params) s = .next t ∧ s.givenUp t .restart ∧ (t.attention = true ↔ t.mgt.records ≠ [] ∨ back) ∧
      t.mgt = { s.mgt with
        run := .config, frozen := false, clock := none, restarting := true, attentionHeld := decide back
        records := t.mgt.records, response := some ⟨.done, [], false⟩ } ∧
      t.oft = ⟨if s.mgt.config.purge then [] else
        s.oft.candidates.map fun c => { c with key := none, firstHeard := none, contest := none }⟩ ∧
      t.pvw = { table := s.pvw.table.map fun y => { y with lastHeard := none }, items := [], timer := none, sweepAt := none }

/-- ENTRY_TO_HALTED (R97, R142, R154, R158, R175, R192, R204): due while fewer than 24 buffers are in service, outside SELFTEST, and once; not due,
it has no effect (log entry 10). The attention output is asserted (R206). -/
def Obligations.EntryToHalted : Prop :=
  ∀ (s : State),
    (24 ≤ s.inService ∨ s.mgt.run = .selftest ∨ s.mgt.run = .halted → exec .entryToHalted s = .next s.begin) ∧
    (s.inService < 24 → s.mgt.run ≠ .selftest → s.mgt.run ≠ .halted →
      ∃ t, exec .entryToHalted s = .next t ∧ s.givenUp t .halt ∧ t.attention = true ∧
        t.mgt = { s.mgt with run := .halted, attentionHeld := false, records := t.mgt.records } ∧ t.oft = s.oft ∧
        t.pvw = { s.pvw with items := [], timer := none } ∧ t.count .halts = saturatingNext (s.count .halts))

/-! ### Arithmetic and encodings -/

/-- Usable numbers (R2): both forms of the mapping, the reverse mapping, physical order, and the cells skipped. -/
def Obligations.UsableNumbers : Prop :=
  ∀ (n : Nat),
    physicalCell n = n + 1 + (n + 1) / 2047 ∧ seg n = physicalCell n / 2048 ∧ cellOf n = physicalCell n % 2048 ∧
    seg n = (n + 1) / 2047 ∧ cellOf n = n + 1 - 2047 * seg n ∧ cellOf n ≠ 2047 ∧ physicalCell n ≠ 0 ∧
    (∀ m, n < m → physicalCell n < physicalCell m) ∧
    (∀ k c, c < 2047 → ¬ (c = 0 ∧ k = 0) → seg (2047 * k + c - 1) = k ∧ cellOf (2047 * k + c - 1) = c) ∧
    (∀ k, 1 ≤ k → (seg n = k ↔ 2047 * k - 1 ≤ n ∧ n ≤ 2047 * k + 2045)) ∧ (seg n = 0 ↔ n ≤ 2045)

/-- The encodings read back. A frame as this part forms it delimits, checks and reads as what it was formed from, and so does an OFFER formed the
same way by its source (R24-R27); a configuration record in range reads back from its 43 bytes (R199). -/
def Obligations.EncodingsReadBack : Prop :=
  (∀ (st : Station),
    (∀ kind target body, body.length ≤ 4200 →
      let f := arrivingFrame kind st target body
      splitFrame (formFrame kind st target body) = some (kind, f) ∧ passesCheck kind f = true ∧
      stationOf f.sender = some st ∧ f.bodyLength.toNat = body.length) ∧
    (∀ p seq, ∃ f, splitFrame (claimFrame st p seq) = some (0x41#8, f) ∧ readClaim f st = some p ∧ ticketAt f.body 5 = seq) ∧
    (∀ p, ∃ f, splitFrame (fetchFrame st p) = some (0x42#8, f) ∧ readFetch f st = some p.source ∧ ticketAt f.body 0 = p.ticket) ∧
    (∀ r, ∃ f, splitFrame (releaseFrame st r) = some (0x43#8, f) ∧ readRelease f st = some r.pair.source ∧
      ticketAt f.body 0 = r.pair.ticket ∧ fieldAt f.body 4 1 = r.reason.code) ∧
    (∀ x : BeaconItem, x.fill < 2 ^ 32 → x.members ≤ 4096 → ∃ f, splitFrame (beaconFrame st x) = some (0x44#8, f) ∧
      readBeacon f st = some (x.phase, x.key, x.fill) ∧ ticketAt f.body 0 = x.epoch ∧ ticketAt f.body 4 = x.seq ∧
      fieldAt f.body 21 2 = x.members) ∧
    (∀ x : FileInfo, x.pair.source = st → x.size < 2 ^ 32 → x.cls ≤ 15 → x.name.length ≤ 200 →
      readOffer (arrivingFrame 0x21#8 st 0xFF#8 (le 4 x.pair.ticket.toNat ++ le 8 x.tag.toNat ++ le 4 x.size ++
        le 4 x.crc.toNat ++ le 1 x.cls ++ le 1 x.name.length ++ x.name)) st = some x)) ∧
  (∀ (c : ConfigRecord), ConfigInRange c → (configBytes c).length = 43 ∧ readConfig (configBytes c) = c)

/-! ### What every step keeps -/

/-- Every step keeps what the manual bounds or excludes in one state (R34, R41, R73, R99, R143, R160, R187, R199, R205). -/
def Obligations.SoundKept : Prop :=
  ∀ (s t : State), s.Sound → step s = .next t → t.Sound

/-- The state after reset has it, and no pair is listed or pending there. -/
def Obligations.SoundAtReset : Prop :=
  State.reset.Sound ∧ State.reset.pairsDistinct

/-- No step makes a pair a candidate twice, a pending claim twice, or both (R41, R43, R79). -/
def Obligations.PairsStayDistinct : Prop :=
  ∀ (s t : State), s.pairsDistinct → step s = .next t → t.pairsDistinct

/-- What only HARD_RESET undoes (R39, R100, R153, R198), and what no command touches: the queue of waiting commands and the station number
stay, no counter falls, every RETIRED buffer stays as it is, and the next sequence falls with a new epoch only. -/
def Obligations.OnlyHardReset : Prop :=
  ∀ (c : Instr) (s t : State), (∀ straps, c ≠ .hardReset straps) → exec c s = .next t →
    t.pending = s.pending ∧ t.lif.station = s.lif.station ∧ (∀ k, (s.count k).toNat ≤ (t.count k).toNat) ∧
    (∀ i, (s.buffer i).state = .retired → t.buffer i = s.buffer i) ∧
    ((∀ params, c ≠ .configure params) → (∀ write, c ≠ .unknownCommand write) → s.pkb.nextSeq.toNat ≤ t.pkb.nextSeq.toNat)
end

