-- ==== Sys2Proof/Laws/Memory.lean ====
section
/-! SUPPORT. The buffer memory: every operation keeps the canonical form, a read after a write gives what was written, and every other
address reads as before. -/

namespace Sys2Proof.Machine

theorem Memory.cellsFrom_bounds (bs : List Byte) (a : Nat) :
    ∀ c ∈ Memory.cellsFrom a bs, a ≤ c.1 ∧ c.1 < a + bs.length ∧ c.2 ≠ Memory.unlisted := by
  induction bs generalizing a with
  | nil => simp [Memory.cellsFrom]
  | cons b bs ih =>
    intro c hc
    unfold Memory.cellsFrom at hc
    split at hc
    · obtain ⟨h1, h2, h3⟩ := ih (a + 1) c hc
      refine ⟨by omega, ?_, h3⟩
      simp only [List.length_cons]; omega
    · rcases List.mem_cons.1 hc with rfl | hc
      · simp_all
      · obtain ⟨h1, h2, h3⟩ := ih (a + 1) c hc
        refine ⟨by omega, ?_, h3⟩
        simp only [List.length_cons]; omega

theorem Memory.cellsFrom_sorted (bs : List Byte) (a : Nat) :
    (Memory.cellsFrom a bs).Pairwise (fun x y => x.1 < y.1) := by
  induction bs generalizing a with
  | nil => simp [Memory.cellsFrom]
  | cons b bs ih =>
    unfold Memory.cellsFrom
    split
    · exact ih (a + 1)
    · refine List.Pairwise.cons (fun c hc => ?_) (ih (a + 1))
      have := Memory.cellsFrom_bounds bs (a + 1) c hc
      show a < c.1
      omega

/-- A write keeps the canonical form. -/
theorem Memory.wf_write {m : Memory} (h : m.wf) (a : Nat) (bs : List Byte) : (m.write a bs).wf := by
  obtain ⟨hs, hv⟩ := h
  have hb := Memory.cellsFrom_bounds bs a
  refine ⟨?_, ?_⟩
  · unfold Memory.write
    rw [List.pairwise_append, List.pairwise_append]
    refine ⟨⟨hs.filter _, Memory.cellsFrom_sorted bs a, ?_⟩, hs.filter _, ?_⟩
    · intro x hx y hy
      have := (hb y hy).1
      simp only [List.mem_filter, decide_eq_true_eq] at hx
      omega
    · intro x hx y hy
      simp only [List.mem_append, List.mem_filter, decide_eq_true_eq] at hx hy
      rcases hx with hx | hx
      · omega
      · have := hb x hx; omega
  · intro c hc
    simp only [Memory.write, List.mem_append, List.mem_filter] at hc
    rcases hc with (hc | hc) | hc
    · exact hv c hc.1
    · exact (hb c hc).2.2
    · exact hv c hc.1

/-- A clear keeps the canonical form. -/
theorem Memory.wf_clear {m : Memory} (h : m.wf) (a n : Nat) : (m.clear a n).wf := by
  obtain ⟨hs, hv⟩ := h
  exact ⟨hs.filter _, fun c hc => hv c (List.mem_filter.1 hc).1⟩

theorem Memory.read_eq_of_find {m m' : Memory} {a : Nat}
    (h : m.find? (fun c => c.1 == a) = m'.find? (fun c => c.1 == a)) : m.read a = m'.read a := by
  simp [Memory.read, h]

theorem Memory.find_none {m : Memory} {x : Nat} (h : ∀ c ∈ m, c.1 ≠ x) : m.find? (fun c => c.1 == x) = none := by
  rw [List.find?_eq_none]; intro c hc; simpa using h c hc

theorem Memory.find_filter_keep {m : Memory} {x : Nat} {p : Host.Cell → Bool} (h : ∀ c ∈ m, c.1 = x → p c = true) :
    (m.filter p).find? (fun c => c.1 == x) = m.find? (fun c => c.1 == x) := by
  induction m with
  | nil => rfl
  | cons d m ih =>
    have ih := ih fun c hc => h c (List.mem_cons_of_mem _ hc)
    by_cases hd : d.1 = x
    · have := h d List.mem_cons_self hd
      simp [this, hd]
    · by_cases hp : p d = true
      · simp [hp, hd, ih]
      · simp [hp, hd, ih]

/-- An address outside a write reads as before. -/
theorem Memory.read_write_other (m : Memory) (a : Nat) (bs : List Byte) (x : Nat) (h : x < a ∨ a + bs.length ≤ x) :
    (m.write a bs).read x = m.read x := by
  have hb := Memory.cellsFrom_bounds bs a
  have hmid : (Memory.cellsFrom a bs).find? (fun c => c.1 == x) = none :=
    Memory.find_none fun c hc => by have := hb c hc; omega
  apply Memory.read_eq_of_find
  unfold Memory.write
  rw [List.find?_append, List.find?_append, hmid]
  rcases h with h | h
  · rw [Memory.find_filter_keep (by intro c _ hc; simp; omega),
      Memory.find_none (m := m.filter fun c => a + bs.length ≤ c.1)
        (by intro c hc; simp only [List.mem_filter, decide_eq_true_eq] at hc; omega)]
    simp
  · rw [Memory.find_none (m := m.filter fun c => c.1 < a)
        (by intro c hc; simp only [List.mem_filter, decide_eq_true_eq] at hc; omega),
      Memory.find_filter_keep (by intro c _ hc; simp; omega)]
    simp

theorem Memory.read_skip {m : Memory} {x : Nat} (h : ∀ c ∈ m, c.1 ≠ x) : m.read x = Memory.unlisted := by
  simp [Memory.read, Memory.find_none h]

theorem Memory.read_cellsFrom (bs : List Byte) (a i : Nat) (h : i < bs.length) :
    Memory.read (Memory.cellsFrom a bs) (a + i) = bs[i] := by
  induction bs generalizing a i with
  | nil => simp at h
  | cons b bs ih =>
    have hb := Memory.cellsFrom_bounds bs (a + 1)
    cases i with
    | zero =>
      by_cases hu : b = Memory.unlisted
      · rw [Memory.cellsFrom, if_pos hu, Memory.read_skip (by intro c hc; have := hb c hc; omega)]
        simp [hu]
      · rw [Memory.cellsFrom, if_neg hu]; simp [Memory.read]
    | succ i =>
      have hi : i < bs.length := by simpa using h
      have e : a + (i + 1) = a + 1 + i := by omega
      have ih := ih (a + 1) i hi
      by_cases hu : b = Memory.unlisted
      · rw [Memory.cellsFrom, if_pos hu, e, ih]; simp
      · have hne : (a == a + 1 + i) = false := by simp; omega
        rw [Memory.cellsFrom, if_neg hu, e]
        rw [← Memory.read_eq_of_find (m := Memory.cellsFrom (a + 1) bs), ih]
        · simp
        · simp [hne]

/-- A byte written reads back. -/
theorem Memory.read_write_here (m : Memory) (a : Nat) (bs : List Byte) (i : Nat) (h : i < bs.length) :
    (m.write a bs).read (a + i) = bs[i] := by
  have hlo : (m.filter fun c => c.1 < a).find? (fun c => c.1 == a + i) = none :=
    Memory.find_none fun c hc => by simp only [List.mem_filter, decide_eq_true_eq] at hc; omega
  have hhi : (m.filter fun c => a + bs.length ≤ c.1).find? (fun c => c.1 == a + i) = none :=
    Memory.find_none fun c hc => by simp only [List.mem_filter, decide_eq_true_eq] at hc; omega
  rw [← Memory.read_cellsFrom bs a i h]
  apply Memory.read_eq_of_find
  unfold Memory.write
  rw [List.find?_append, List.find?_append, hlo, hhi]
  simp

/-- A cleared address reads as an unlisted one. -/
theorem Memory.read_clear_here (m : Memory) (a n x : Nat) (h : a ≤ x ∧ x < a + n) :
    (m.clear a n).read x = Memory.unlisted := by
  unfold Memory.read Memory.clear
  rw [Memory.find_none]
  intro c hc
  simp only [List.mem_filter, Bool.or_eq_true, decide_eq_true_eq] at hc
  omega

/-- An address outside a clear reads as before. -/
theorem Memory.read_clear_other (m : Memory) (a n x : Nat) (h : x < a ∨ a + n ≤ x) :
    (m.clear a n).read x = m.read x := by
  apply Memory.read_eq_of_find
  unfold Memory.clear
  rw [Memory.find_filter_keep]
  intro c _ hc
  simp only [Bool.or_eq_true, decide_eq_true_eq]
  omega

theorem Memory.readRange_length (m : Memory) (a n : Nat) : (m.readRange a n).length = n := by
  simp [Memory.readRange]

end Sys2Proof.Machine
end

