-- ==== Sys2Proof/Laws/State.lean ====
section
/-! SUPPORT. What each named update of the state leaves in each field. -/

namespace Sys2Proof.Machine

@[simp] theorem State.withLif_lif (s : State) (x : Lif) : (s.withLif x).lif = x := rfl
@[simp] theorem State.withLif_oft (s : State) (x : Lif) : (s.withLif x).oft = s.oft := rfl
@[simp] theorem State.withLif_pvw (s : State) (x : Lif) : (s.withLif x).pvw = s.pvw := rfl
@[simp] theorem State.withLif_sel (s : State) (x : Lif) : (s.withLif x).sel = s.sel := rfl
@[simp] theorem State.withLif_pkb (s : State) (x : Lif) : (s.withLif x).pkb = s.pkb := rfl
@[simp] theorem State.withLif_fen (s : State) (x : Lif) : (s.withLif x).fen = s.fen := rfl
@[simp] theorem State.withLif_spl (s : State) (x : Lif) : (s.withLif x).spl = s.spl := rfl
@[simp] theorem State.withLif_drn (s : State) (x : Lif) : (s.withLif x).drn = s.drn := rfl
@[simp] theorem State.withLif_aru (s : State) (x : Lif) : (s.withLif x).aru = s.aru := rfl
@[simp] theorem State.withLif_mgt (s : State) (x : Lif) : (s.withLif x).mgt = s.mgt := rfl
@[simp] theorem State.withLif_counters (s : State) (x : Lif) : (s.withLif x).counters = s.counters := rfl
@[simp] theorem State.withLif_mem (s : State) (x : Lif) : (s.withLif x).mem = s.mem := rfl
@[simp] theorem State.withLif_wake (s : State) (x : Lif) : (s.withLif x).wake = s.wake := rfl
@[simp] theorem State.withLif_emitted (s : State) (x : Lif) : (s.withLif x).emitted = s.emitted := rfl
@[simp] theorem State.withLif_pending (s : State) (x : Lif) : (s.withLif x).pending = s.pending := rfl

@[simp] theorem State.withOft_lif (s : State) (x : Oft) : (s.withOft x).lif = s.lif := rfl
@[simp] theorem State.withOft_oft (s : State) (x : Oft) : (s.withOft x).oft = x := rfl
@[simp] theorem State.withOft_pvw (s : State) (x : Oft) : (s.withOft x).pvw = s.pvw := rfl
@[simp] theorem State.withOft_sel (s : State) (x : Oft) : (s.withOft x).sel = s.sel := rfl
@[simp] theorem State.withOft_pkb (s : State) (x : Oft) : (s.withOft x).pkb = s.pkb := rfl
@[simp] theorem State.withOft_fen (s : State) (x : Oft) : (s.withOft x).fen = s.fen := rfl
@[simp] theorem State.withOft_spl (s : State) (x : Oft) : (s.withOft x).spl = s.spl := rfl
@[simp] theorem State.withOft_drn (s : State) (x : Oft) : (s.withOft x).drn = s.drn := rfl
@[simp] theorem State.withOft_aru (s : State) (x : Oft) : (s.withOft x).aru = s.aru := rfl
@[simp] theorem State.withOft_mgt (s : State) (x : Oft) : (s.withOft x).mgt = s.mgt := rfl
@[simp] theorem State.withOft_counters (s : State) (x : Oft) : (s.withOft x).counters = s.counters := rfl
@[simp] theorem State.withOft_mem (s : State) (x : Oft) : (s.withOft x).mem = s.mem := rfl
@[simp] theorem State.withOft_wake (s : State) (x : Oft) : (s.withOft x).wake = s.wake := rfl
@[simp] theorem State.withOft_emitted (s : State) (x : Oft) : (s.withOft x).emitted = s.emitted := rfl
@[simp] theorem State.withOft_pending (s : State) (x : Oft) : (s.withOft x).pending = s.pending := rfl

@[simp] theorem State.withPvw_lif (s : State) (x : Pvw) : (s.withPvw x).lif = s.lif := rfl
@[simp] theorem State.withPvw_oft (s : State) (x : Pvw) : (s.withPvw x).oft = s.oft := rfl
@[simp] theorem State.withPvw_pvw (s : State) (x : Pvw) : (s.withPvw x).pvw = x := rfl
@[simp] theorem State.withPvw_sel (s : State) (x : Pvw) : (s.withPvw x).sel = s.sel := rfl
@[simp] theorem State.withPvw_pkb (s : State) (x : Pvw) : (s.withPvw x).pkb = s.pkb := rfl
@[simp] theorem State.withPvw_fen (s : State) (x : Pvw) : (s.withPvw x).fen = s.fen := rfl
@[simp] theorem State.withPvw_spl (s : State) (x : Pvw) : (s.withPvw x).spl = s.spl := rfl
@[simp] theorem State.withPvw_drn (s : State) (x : Pvw) : (s.withPvw x).drn = s.drn := rfl
@[simp] theorem State.withPvw_aru (s : State) (x : Pvw) : (s.withPvw x).aru = s.aru := rfl
@[simp] theorem State.withPvw_mgt (s : State) (x : Pvw) : (s.withPvw x).mgt = s.mgt := rfl
@[simp] theorem State.withPvw_counters (s : State) (x : Pvw) : (s.withPvw x).counters = s.counters := rfl
@[simp] theorem State.withPvw_mem (s : State) (x : Pvw) : (s.withPvw x).mem = s.mem := rfl
@[simp] theorem State.withPvw_wake (s : State) (x : Pvw) : (s.withPvw x).wake = s.wake := rfl
@[simp] theorem State.withPvw_emitted (s : State) (x : Pvw) : (s.withPvw x).emitted = s.emitted := rfl
@[simp] theorem State.withPvw_pending (s : State) (x : Pvw) : (s.withPvw x).pending = s.pending := rfl

@[simp] theorem State.withSel_lif (s : State) (x : Sel) : (s.withSel x).lif = s.lif := rfl
@[simp] theorem State.withSel_oft (s : State) (x : Sel) : (s.withSel x).oft = s.oft := rfl
@[simp] theorem State.withSel_pvw (s : State) (x : Sel) : (s.withSel x).pvw = s.pvw := rfl
@[simp] theorem State.withSel_sel (s : State) (x : Sel) : (s.withSel x).sel = x := rfl
@[simp] theorem State.withSel_pkb (s : State) (x : Sel) : (s.withSel x).pkb = s.pkb := rfl
@[simp] theorem State.withSel_fen (s : State) (x : Sel) : (s.withSel x).fen = s.fen := rfl
@[simp] theorem State.withSel_spl (s : State) (x : Sel) : (s.withSel x).spl = s.spl := rfl
@[simp] theorem State.withSel_drn (s : State) (x : Sel) : (s.withSel x).drn = s.drn := rfl
@[simp] theorem State.withSel_aru (s : State) (x : Sel) : (s.withSel x).aru = s.aru := rfl
@[simp] theorem State.withSel_mgt (s : State) (x : Sel) : (s.withSel x).mgt = s.mgt := rfl
@[simp] theorem State.withSel_counters (s : State) (x : Sel) : (s.withSel x).counters = s.counters := rfl
@[simp] theorem State.withSel_mem (s : State) (x : Sel) : (s.withSel x).mem = s.mem := rfl
@[simp] theorem State.withSel_wake (s : State) (x : Sel) : (s.withSel x).wake = s.wake := rfl
@[simp] theorem State.withSel_emitted (s : State) (x : Sel) : (s.withSel x).emitted = s.emitted := rfl
@[simp] theorem State.withSel_pending (s : State) (x : Sel) : (s.withSel x).pending = s.pending := rfl

@[simp] theorem State.withPkb_lif (s : State) (x : Pkb) : (s.withPkb x).lif = s.lif := rfl
@[simp] theorem State.withPkb_oft (s : State) (x : Pkb) : (s.withPkb x).oft = s.oft := rfl
@[simp] theorem State.withPkb_pvw (s : State) (x : Pkb) : (s.withPkb x).pvw = s.pvw := rfl
@[simp] theorem State.withPkb_sel (s : State) (x : Pkb) : (s.withPkb x).sel = s.sel := rfl
@[simp] theorem State.withPkb_pkb (s : State) (x : Pkb) : (s.withPkb x).pkb = x := rfl
@[simp] theorem State.withPkb_fen (s : State) (x : Pkb) : (s.withPkb x).fen = s.fen := rfl
@[simp] theorem State.withPkb_spl (s : State) (x : Pkb) : (s.withPkb x).spl = s.spl := rfl
@[simp] theorem State.withPkb_drn (s : State) (x : Pkb) : (s.withPkb x).drn = s.drn := rfl
@[simp] theorem State.withPkb_aru (s : State) (x : Pkb) : (s.withPkb x).aru = s.aru := rfl
@[simp] theorem State.withPkb_mgt (s : State) (x : Pkb) : (s.withPkb x).mgt = s.mgt := rfl
@[simp] theorem State.withPkb_counters (s : State) (x : Pkb) : (s.withPkb x).counters = s.counters := rfl
@[simp] theorem State.withPkb_mem (s : State) (x : Pkb) : (s.withPkb x).mem = s.mem := rfl
@[simp] theorem State.withPkb_wake (s : State) (x : Pkb) : (s.withPkb x).wake = s.wake := rfl
@[simp] theorem State.withPkb_emitted (s : State) (x : Pkb) : (s.withPkb x).emitted = s.emitted := rfl
@[simp] theorem State.withPkb_pending (s : State) (x : Pkb) : (s.withPkb x).pending = s.pending := rfl

@[simp] theorem State.withFen_lif (s : State) (x : Fen) : (s.withFen x).lif = s.lif := rfl
@[simp] theorem State.withFen_oft (s : State) (x : Fen) : (s.withFen x).oft = s.oft := rfl
@[simp] theorem State.withFen_pvw (s : State) (x : Fen) : (s.withFen x).pvw = s.pvw := rfl
@[simp] theorem State.withFen_sel (s : State) (x : Fen) : (s.withFen x).sel = s.sel := rfl
@[simp] theorem State.withFen_pkb (s : State) (x : Fen) : (s.withFen x).pkb = s.pkb := rfl
@[simp] theorem State.withFen_fen (s : State) (x : Fen) : (s.withFen x).fen = x := rfl
@[simp] theorem State.withFen_spl (s : State) (x : Fen) : (s.withFen x).spl = s.spl := rfl
@[simp] theorem State.withFen_drn (s : State) (x : Fen) : (s.withFen x).drn = s.drn := rfl
@[simp] theorem State.withFen_aru (s : State) (x : Fen) : (s.withFen x).aru = s.aru := rfl
@[simp] theorem State.withFen_mgt (s : State) (x : Fen) : (s.withFen x).mgt = s.mgt := rfl
@[simp] theorem State.withFen_counters (s : State) (x : Fen) : (s.withFen x).counters = s.counters := rfl
@[simp] theorem State.withFen_mem (s : State) (x : Fen) : (s.withFen x).mem = s.mem := rfl
@[simp] theorem State.withFen_wake (s : State) (x : Fen) : (s.withFen x).wake = s.wake := rfl
@[simp] theorem State.withFen_emitted (s : State) (x : Fen) : (s.withFen x).emitted = s.emitted := rfl
@[simp] theorem State.withFen_pending (s : State) (x : Fen) : (s.withFen x).pending = s.pending := rfl

@[simp] theorem State.withSpl_lif (s : State) (x : Spl) : (s.withSpl x).lif = s.lif := rfl
@[simp] theorem State.withSpl_oft (s : State) (x : Spl) : (s.withSpl x).oft = s.oft := rfl
@[simp] theorem State.withSpl_pvw (s : State) (x : Spl) : (s.withSpl x).pvw = s.pvw := rfl
@[simp] theorem State.withSpl_sel (s : State) (x : Spl) : (s.withSpl x).sel = s.sel := rfl
@[simp] theorem State.withSpl_pkb (s : State) (x : Spl) : (s.withSpl x).pkb = s.pkb := rfl
@[simp] theorem State.withSpl_fen (s : State) (x : Spl) : (s.withSpl x).fen = s.fen := rfl
@[simp] theorem State.withSpl_spl (s : State) (x : Spl) : (s.withSpl x).spl = x := rfl
@[simp] theorem State.withSpl_drn (s : State) (x : Spl) : (s.withSpl x).drn = s.drn := rfl
@[simp] theorem State.withSpl_aru (s : State) (x : Spl) : (s.withSpl x).aru = s.aru := rfl
@[simp] theorem State.withSpl_mgt (s : State) (x : Spl) : (s.withSpl x).mgt = s.mgt := rfl
@[simp] theorem State.withSpl_counters (s : State) (x : Spl) : (s.withSpl x).counters = s.counters := rfl
@[simp] theorem State.withSpl_mem (s : State) (x : Spl) : (s.withSpl x).mem = s.mem := rfl
@[simp] theorem State.withSpl_wake (s : State) (x : Spl) : (s.withSpl x).wake = s.wake := rfl
@[simp] theorem State.withSpl_emitted (s : State) (x : Spl) : (s.withSpl x).emitted = s.emitted := rfl
@[simp] theorem State.withSpl_pending (s : State) (x : Spl) : (s.withSpl x).pending = s.pending := rfl

@[simp] theorem State.withDrn_lif (s : State) (x : Drn) : (s.withDrn x).lif = s.lif := rfl
@[simp] theorem State.withDrn_oft (s : State) (x : Drn) : (s.withDrn x).oft = s.oft := rfl
@[simp] theorem State.withDrn_pvw (s : State) (x : Drn) : (s.withDrn x).pvw = s.pvw := rfl
@[simp] theorem State.withDrn_sel (s : State) (x : Drn) : (s.withDrn x).sel = s.sel := rfl
@[simp] theorem State.withDrn_pkb (s : State) (x : Drn) : (s.withDrn x).pkb = s.pkb := rfl
@[simp] theorem State.withDrn_fen (s : State) (x : Drn) : (s.withDrn x).fen = s.fen := rfl
@[simp] theorem State.withDrn_spl (s : State) (x : Drn) : (s.withDrn x).spl = s.spl := rfl
@[simp] theorem State.withDrn_drn (s : State) (x : Drn) : (s.withDrn x).drn = x := rfl
@[simp] theorem State.withDrn_aru (s : State) (x : Drn) : (s.withDrn x).aru = s.aru := rfl
@[simp] theorem State.withDrn_mgt (s : State) (x : Drn) : (s.withDrn x).mgt = s.mgt := rfl
@[simp] theorem State.withDrn_counters (s : State) (x : Drn) : (s.withDrn x).counters = s.counters := rfl
@[simp] theorem State.withDrn_mem (s : State) (x : Drn) : (s.withDrn x).mem = s.mem := rfl
@[simp] theorem State.withDrn_wake (s : State) (x : Drn) : (s.withDrn x).wake = s.wake := rfl
@[simp] theorem State.withDrn_emitted (s : State) (x : Drn) : (s.withDrn x).emitted = s.emitted := rfl
@[simp] theorem State.withDrn_pending (s : State) (x : Drn) : (s.withDrn x).pending = s.pending := rfl

@[simp] theorem State.withAru_lif (s : State) (x : Aru) : (s.withAru x).lif = s.lif := rfl
@[simp] theorem State.withAru_oft (s : State) (x : Aru) : (s.withAru x).oft = s.oft := rfl
@[simp] theorem State.withAru_pvw (s : State) (x : Aru) : (s.withAru x).pvw = s.pvw := rfl
@[simp] theorem State.withAru_sel (s : State) (x : Aru) : (s.withAru x).sel = s.sel := rfl
@[simp] theorem State.withAru_pkb (s : State) (x : Aru) : (s.withAru x).pkb = s.pkb := rfl
@[simp] theorem State.withAru_fen (s : State) (x : Aru) : (s.withAru x).fen = s.fen := rfl
@[simp] theorem State.withAru_spl (s : State) (x : Aru) : (s.withAru x).spl = s.spl := rfl
@[simp] theorem State.withAru_drn (s : State) (x : Aru) : (s.withAru x).drn = s.drn := rfl
@[simp] theorem State.withAru_aru (s : State) (x : Aru) : (s.withAru x).aru = x := rfl
@[simp] theorem State.withAru_mgt (s : State) (x : Aru) : (s.withAru x).mgt = s.mgt := rfl
@[simp] theorem State.withAru_counters (s : State) (x : Aru) : (s.withAru x).counters = s.counters := rfl
@[simp] theorem State.withAru_mem (s : State) (x : Aru) : (s.withAru x).mem = s.mem := rfl
@[simp] theorem State.withAru_wake (s : State) (x : Aru) : (s.withAru x).wake = s.wake := rfl
@[simp] theorem State.withAru_emitted (s : State) (x : Aru) : (s.withAru x).emitted = s.emitted := rfl
@[simp] theorem State.withAru_pending (s : State) (x : Aru) : (s.withAru x).pending = s.pending := rfl

@[simp] theorem State.withMgt_lif (s : State) (x : Mgt) : (s.withMgt x).lif = s.lif := rfl
@[simp] theorem State.withMgt_oft (s : State) (x : Mgt) : (s.withMgt x).oft = s.oft := rfl
@[simp] theorem State.withMgt_pvw (s : State) (x : Mgt) : (s.withMgt x).pvw = s.pvw := rfl
@[simp] theorem State.withMgt_sel (s : State) (x : Mgt) : (s.withMgt x).sel = s.sel := rfl
@[simp] theorem State.withMgt_pkb (s : State) (x : Mgt) : (s.withMgt x).pkb = s.pkb := rfl
@[simp] theorem State.withMgt_fen (s : State) (x : Mgt) : (s.withMgt x).fen = s.fen := rfl
@[simp] theorem State.withMgt_spl (s : State) (x : Mgt) : (s.withMgt x).spl = s.spl := rfl
@[simp] theorem State.withMgt_drn (s : State) (x : Mgt) : (s.withMgt x).drn = s.drn := rfl
@[simp] theorem State.withMgt_aru (s : State) (x : Mgt) : (s.withMgt x).aru = s.aru := rfl
@[simp] theorem State.withMgt_mgt (s : State) (x : Mgt) : (s.withMgt x).mgt = x := rfl
@[simp] theorem State.withMgt_counters (s : State) (x : Mgt) : (s.withMgt x).counters = s.counters := rfl
@[simp] theorem State.withMgt_mem (s : State) (x : Mgt) : (s.withMgt x).mem = s.mem := rfl
@[simp] theorem State.withMgt_wake (s : State) (x : Mgt) : (s.withMgt x).wake = s.wake := rfl
@[simp] theorem State.withMgt_emitted (s : State) (x : Mgt) : (s.withMgt x).emitted = s.emitted := rfl
@[simp] theorem State.withMgt_pending (s : State) (x : Mgt) : (s.withMgt x).pending = s.pending := rfl

@[simp] theorem State.withCounters_lif (s : State) (x : Vector Counter 84) : (s.withCounters x).lif = s.lif := rfl
@[simp] theorem State.withCounters_oft (s : State) (x : Vector Counter 84) : (s.withCounters x).oft = s.oft := rfl
@[simp] theorem State.withCounters_pvw (s : State) (x : Vector Counter 84) : (s.withCounters x).pvw = s.pvw := rfl
@[simp] theorem State.withCounters_sel (s : State) (x : Vector Counter 84) : (s.withCounters x).sel = s.sel := rfl
@[simp] theorem State.withCounters_pkb (s : State) (x : Vector Counter 84) : (s.withCounters x).pkb = s.pkb := rfl
@[simp] theorem State.withCounters_fen (s : State) (x : Vector Counter 84) : (s.withCounters x).fen = s.fen := rfl
@[simp] theorem State.withCounters_spl (s : State) (x : Vector Counter 84) : (s.withCounters x).spl = s.spl := rfl
@[simp] theorem State.withCounters_drn (s : State) (x : Vector Counter 84) : (s.withCounters x).drn = s.drn := rfl
@[simp] theorem State.withCounters_aru (s : State) (x : Vector Counter 84) : (s.withCounters x).aru = s.aru := rfl
@[simp] theorem State.withCounters_mgt (s : State) (x : Vector Counter 84) : (s.withCounters x).mgt = s.mgt := rfl
@[simp] theorem State.withCounters_counters (s : State) (x : Vector Counter 84) : (s.withCounters x).counters = x := rfl
@[simp] theorem State.withCounters_mem (s : State) (x : Vector Counter 84) : (s.withCounters x).mem = s.mem := rfl
@[simp] theorem State.withCounters_wake (s : State) (x : Vector Counter 84) : (s.withCounters x).wake = s.wake := rfl
@[simp] theorem State.withCounters_emitted (s : State) (x : Vector Counter 84) : (s.withCounters x).emitted = s.emitted := rfl
@[simp] theorem State.withCounters_pending (s : State) (x : Vector Counter 84) : (s.withCounters x).pending = s.pending := rfl

@[simp] theorem State.withMem_lif (s : State) (x : Memory) : (s.withMem x).lif = s.lif := rfl
@[simp] theorem State.withMem_oft (s : State) (x : Memory) : (s.withMem x).oft = s.oft := rfl
@[simp] theorem State.withMem_pvw (s : State) (x : Memory) : (s.withMem x).pvw = s.pvw := rfl
@[simp] theorem State.withMem_sel (s : State) (x : Memory) : (s.withMem x).sel = s.sel := rfl
@[simp] theorem State.withMem_pkb (s : State) (x : Memory) : (s.withMem x).pkb = s.pkb := rfl
@[simp] theorem State.withMem_fen (s : State) (x : Memory) : (s.withMem x).fen = s.fen := rfl
@[simp] theorem State.withMem_spl (s : State) (x : Memory) : (s.withMem x).spl = s.spl := rfl
@[simp] theorem State.withMem_drn (s : State) (x : Memory) : (s.withMem x).drn = s.drn := rfl
@[simp] theorem State.withMem_aru (s : State) (x : Memory) : (s.withMem x).aru = s.aru := rfl
@[simp] theorem State.withMem_mgt (s : State) (x : Memory) : (s.withMem x).mgt = s.mgt := rfl
@[simp] theorem State.withMem_counters (s : State) (x : Memory) : (s.withMem x).counters = s.counters := rfl
@[simp] theorem State.withMem_mem (s : State) (x : Memory) : (s.withMem x).mem = x := rfl
@[simp] theorem State.withMem_wake (s : State) (x : Memory) : (s.withMem x).wake = s.wake := rfl
@[simp] theorem State.withMem_emitted (s : State) (x : Memory) : (s.withMem x).emitted = s.emitted := rfl
@[simp] theorem State.withMem_pending (s : State) (x : Memory) : (s.withMem x).pending = s.pending := rfl

@[simp] theorem State.withWake_lif (s : State) (x : Bool) : (s.withWake x).lif = s.lif := rfl
@[simp] theorem State.withWake_oft (s : State) (x : Bool) : (s.withWake x).oft = s.oft := rfl
@[simp] theorem State.withWake_pvw (s : State) (x : Bool) : (s.withWake x).pvw = s.pvw := rfl
@[simp] theorem State.withWake_sel (s : State) (x : Bool) : (s.withWake x).sel = s.sel := rfl
@[simp] theorem State.withWake_pkb (s : State) (x : Bool) : (s.withWake x).pkb = s.pkb := rfl
@[simp] theorem State.withWake_fen (s : State) (x : Bool) : (s.withWake x).fen = s.fen := rfl
@[simp] theorem State.withWake_spl (s : State) (x : Bool) : (s.withWake x).spl = s.spl := rfl
@[simp] theorem State.withWake_drn (s : State) (x : Bool) : (s.withWake x).drn = s.drn := rfl
@[simp] theorem State.withWake_aru (s : State) (x : Bool) : (s.withWake x).aru = s.aru := rfl
@[simp] theorem State.withWake_mgt (s : State) (x : Bool) : (s.withWake x).mgt = s.mgt := rfl
@[simp] theorem State.withWake_counters (s : State) (x : Bool) : (s.withWake x).counters = s.counters := rfl
@[simp] theorem State.withWake_mem (s : State) (x : Bool) : (s.withWake x).mem = s.mem := rfl
@[simp] theorem State.withWake_wake (s : State) (x : Bool) : (s.withWake x).wake = x := rfl
@[simp] theorem State.withWake_emitted (s : State) (x : Bool) : (s.withWake x).emitted = s.emitted := rfl
@[simp] theorem State.withWake_pending (s : State) (x : Bool) : (s.withWake x).pending = s.pending := rfl

@[simp] theorem State.withEmitted_lif (s : State) (x : List Emission) : (s.withEmitted x).lif = s.lif := rfl
@[simp] theorem State.withEmitted_oft (s : State) (x : List Emission) : (s.withEmitted x).oft = s.oft := rfl
@[simp] theorem State.withEmitted_pvw (s : State) (x : List Emission) : (s.withEmitted x).pvw = s.pvw := rfl
@[simp] theorem State.withEmitted_sel (s : State) (x : List Emission) : (s.withEmitted x).sel = s.sel := rfl
@[simp] theorem State.withEmitted_pkb (s : State) (x : List Emission) : (s.withEmitted x).pkb = s.pkb := rfl
@[simp] theorem State.withEmitted_fen (s : State) (x : List Emission) : (s.withEmitted x).fen = s.fen := rfl
@[simp] theorem State.withEmitted_spl (s : State) (x : List Emission) : (s.withEmitted x).spl = s.spl := rfl
@[simp] theorem State.withEmitted_drn (s : State) (x : List Emission) : (s.withEmitted x).drn = s.drn := rfl
@[simp] theorem State.withEmitted_aru (s : State) (x : List Emission) : (s.withEmitted x).aru = s.aru := rfl
@[simp] theorem State.withEmitted_mgt (s : State) (x : List Emission) : (s.withEmitted x).mgt = s.mgt := rfl
@[simp] theorem State.withEmitted_counters (s : State) (x : List Emission) : (s.withEmitted x).counters = s.counters := rfl
@[simp] theorem State.withEmitted_mem (s : State) (x : List Emission) : (s.withEmitted x).mem = s.mem := rfl
@[simp] theorem State.withEmitted_wake (s : State) (x : List Emission) : (s.withEmitted x).wake = s.wake := rfl
@[simp] theorem State.withEmitted_emitted (s : State) (x : List Emission) : (s.withEmitted x).emitted = x := rfl
@[simp] theorem State.withEmitted_pending (s : State) (x : List Emission) : (s.withEmitted x).pending = s.pending := rfl

@[simp] theorem State.withPending_lif (s : State) (x : List Instr) : (s.withPending x).lif = s.lif := rfl
@[simp] theorem State.withPending_oft (s : State) (x : List Instr) : (s.withPending x).oft = s.oft := rfl
@[simp] theorem State.withPending_pvw (s : State) (x : List Instr) : (s.withPending x).pvw = s.pvw := rfl
@[simp] theorem State.withPending_sel (s : State) (x : List Instr) : (s.withPending x).sel = s.sel := rfl
@[simp] theorem State.withPending_pkb (s : State) (x : List Instr) : (s.withPending x).pkb = s.pkb := rfl
@[simp] theorem State.withPending_fen (s : State) (x : List Instr) : (s.withPending x).fen = s.fen := rfl
@[simp] theorem State.withPending_spl (s : State) (x : List Instr) : (s.withPending x).spl = s.spl := rfl
@[simp] theorem State.withPending_drn (s : State) (x : List Instr) : (s.withPending x).drn = s.drn := rfl
@[simp] theorem State.withPending_aru (s : State) (x : List Instr) : (s.withPending x).aru = s.aru := rfl
@[simp] theorem State.withPending_mgt (s : State) (x : List Instr) : (s.withPending x).mgt = s.mgt := rfl
@[simp] theorem State.withPending_counters (s : State) (x : List Instr) : (s.withPending x).counters = s.counters := rfl
@[simp] theorem State.withPending_mem (s : State) (x : List Instr) : (s.withPending x).mem = s.mem := rfl
@[simp] theorem State.withPending_wake (s : State) (x : List Instr) : (s.withPending x).wake = s.wake := rfl
@[simp] theorem State.withPending_emitted (s : State) (x : List Instr) : (s.withPending x).emitted = s.emitted := rfl
@[simp] theorem State.withPending_pending (s : State) (x : List Instr) : (s.withPending x).pending = x := rfl

end Sys2Proof.Machine
end

