-- ==== Sys2Proof/Laws/Ops.lean ====
section
/-! SUPPORT. The shared operations, field by field: what each leaves alone, and counters. -/

namespace Sys2Proof.Machine

@[simp] theorem State.bump_lif (s : State) (c : Ctr) : (s.bump c).lif = s.lif := rfl
@[simp] theorem State.bump_oft (s : State) (c : Ctr) : (s.bump c).oft = s.oft := rfl
@[simp] theorem State.bump_pvw (s : State) (c : Ctr) : (s.bump c).pvw = s.pvw := rfl
@[simp] theorem State.bump_sel (s : State) (c : Ctr) : (s.bump c).sel = s.sel := rfl
@[simp] theorem State.bump_pkb (s : State) (c : Ctr) : (s.bump c).pkb = s.pkb := rfl
@[simp] theorem State.bump_fen (s : State) (c : Ctr) : (s.bump c).fen = s.fen := rfl
@[simp] theorem State.bump_spl (s : State) (c : Ctr) : (s.bump c).spl = s.spl := rfl
@[simp] theorem State.bump_drn (s : State) (c : Ctr) : (s.bump c).drn = s.drn := rfl
@[simp] theorem State.bump_aru (s : State) (c : Ctr) : (s.bump c).aru = s.aru := rfl
@[simp] theorem State.bump_mgt (s : State) (c : Ctr) : (s.bump c).mgt = s.mgt := rfl
@[simp] theorem State.bump_mem (s : State) (c : Ctr) : (s.bump c).mem = s.mem := rfl
@[simp] theorem State.bump_wake (s : State) (c : Ctr) : (s.bump c).wake = s.wake := rfl
@[simp] theorem State.bump_emitted (s : State) (c : Ctr) : (s.bump c).emitted = s.emitted := rfl
@[simp] theorem State.bump_pending (s : State) (c : Ctr) : (s.bump c).pending = s.pending := rfl

@[simp] theorem State.wakeUp_lif (s : State) : (s.wakeUp).lif = s.lif := rfl
@[simp] theorem State.wakeUp_oft (s : State) : (s.wakeUp).oft = s.oft := rfl
@[simp] theorem State.wakeUp_pvw (s : State) : (s.wakeUp).pvw = s.pvw := rfl
@[simp] theorem State.wakeUp_sel (s : State) : (s.wakeUp).sel = s.sel := rfl
@[simp] theorem State.wakeUp_pkb (s : State) : (s.wakeUp).pkb = s.pkb := rfl
@[simp] theorem State.wakeUp_fen (s : State) : (s.wakeUp).fen = s.fen := rfl
@[simp] theorem State.wakeUp_spl (s : State) : (s.wakeUp).spl = s.spl := rfl
@[simp] theorem State.wakeUp_drn (s : State) : (s.wakeUp).drn = s.drn := rfl
@[simp] theorem State.wakeUp_aru (s : State) : (s.wakeUp).aru = s.aru := rfl
@[simp] theorem State.wakeUp_mgt (s : State) : (s.wakeUp).mgt = s.mgt := rfl
@[simp] theorem State.wakeUp_counters (s : State) : (s.wakeUp).counters = s.counters := rfl
@[simp] theorem State.wakeUp_mem (s : State) : (s.wakeUp).mem = s.mem := rfl
@[simp] theorem State.wakeUp_emitted (s : State) : (s.wakeUp).emitted = s.emitted := rfl
@[simp] theorem State.wakeUp_pending (s : State) : (s.wakeUp).pending = s.pending := rfl

@[simp] theorem State.emit_lif (s : State) (x : Emission) : (s.emit x).lif = s.lif := rfl
@[simp] theorem State.emit_oft (s : State) (x : Emission) : (s.emit x).oft = s.oft := rfl
@[simp] theorem State.emit_pvw (s : State) (x : Emission) : (s.emit x).pvw = s.pvw := rfl
@[simp] theorem State.emit_sel (s : State) (x : Emission) : (s.emit x).sel = s.sel := rfl
@[simp] theorem State.emit_pkb (s : State) (x : Emission) : (s.emit x).pkb = s.pkb := rfl
@[simp] theorem State.emit_fen (s : State) (x : Emission) : (s.emit x).fen = s.fen := rfl
@[simp] theorem State.emit_spl (s : State) (x : Emission) : (s.emit x).spl = s.spl := rfl
@[simp] theorem State.emit_drn (s : State) (x : Emission) : (s.emit x).drn = s.drn := rfl
@[simp] theorem State.emit_aru (s : State) (x : Emission) : (s.emit x).aru = s.aru := rfl
@[simp] theorem State.emit_mgt (s : State) (x : Emission) : (s.emit x).mgt = s.mgt := rfl
@[simp] theorem State.emit_counters (s : State) (x : Emission) : (s.emit x).counters = s.counters := rfl
@[simp] theorem State.emit_mem (s : State) (x : Emission) : (s.emit x).mem = s.mem := rfl
@[simp] theorem State.emit_wake (s : State) (x : Emission) : (s.emit x).wake = s.wake := rfl
@[simp] theorem State.emit_pending (s : State) (x : Emission) : (s.emit x).pending = s.pending := rfl

@[simp] theorem State.begin_lif (s : State) : (s.begin).lif = s.lif := rfl
@[simp] theorem State.begin_oft (s : State) : (s.begin).oft = s.oft := rfl
@[simp] theorem State.begin_pvw (s : State) : (s.begin).pvw = s.pvw := rfl
@[simp] theorem State.begin_sel (s : State) : (s.begin).sel = s.sel := rfl
@[simp] theorem State.begin_pkb (s : State) : (s.begin).pkb = s.pkb := rfl
@[simp] theorem State.begin_fen (s : State) : (s.begin).fen = s.fen := rfl
@[simp] theorem State.begin_spl (s : State) : (s.begin).spl = s.spl := rfl
@[simp] theorem State.begin_drn (s : State) : (s.begin).drn = s.drn := rfl
@[simp] theorem State.begin_aru (s : State) : (s.begin).aru = s.aru := rfl
@[simp] theorem State.begin_mgt (s : State) : (s.begin).mgt = s.mgt := rfl
@[simp] theorem State.begin_counters (s : State) : (s.begin).counters = s.counters := rfl
@[simp] theorem State.begin_mem (s : State) : (s.begin).mem = s.mem := rfl
@[simp] theorem State.begin_pending (s : State) : (s.begin).pending = s.pending := rfl

@[simp] theorem State.queueRecord_lif (s : State) (r : PackRecord) : (s.queueRecord r).lif = s.lif := rfl
@[simp] theorem State.queueRecord_oft (s : State) (r : PackRecord) : (s.queueRecord r).oft = s.oft := rfl
@[simp] theorem State.queueRecord_pvw (s : State) (r : PackRecord) : (s.queueRecord r).pvw = s.pvw := rfl
@[simp] theorem State.queueRecord_sel (s : State) (r : PackRecord) : (s.queueRecord r).sel = s.sel := rfl
@[simp] theorem State.queueRecord_pkb (s : State) (r : PackRecord) : (s.queueRecord r).pkb = s.pkb := rfl
@[simp] theorem State.queueRecord_fen (s : State) (r : PackRecord) : (s.queueRecord r).fen = s.fen := rfl
@[simp] theorem State.queueRecord_spl (s : State) (r : PackRecord) : (s.queueRecord r).spl = s.spl := rfl
@[simp] theorem State.queueRecord_drn (s : State) (r : PackRecord) : (s.queueRecord r).drn = s.drn := rfl
@[simp] theorem State.queueRecord_aru (s : State) (r : PackRecord) : (s.queueRecord r).aru = s.aru := rfl
@[simp] theorem State.queueRecord_counters (s : State) (r : PackRecord) : (s.queueRecord r).counters = s.counters := rfl
@[simp] theorem State.queueRecord_mem (s : State) (r : PackRecord) : (s.queueRecord r).mem = s.mem := rfl
@[simp] theorem State.queueRecord_wake (s : State) (r : PackRecord) : (s.queueRecord r).wake = s.wake := rfl
@[simp] theorem State.queueRecord_emitted (s : State) (r : PackRecord) : (s.queueRecord r).emitted = s.emitted := rfl
@[simp] theorem State.queueRecord_pending (s : State) (r : PackRecord) : (s.queueRecord r).pending = s.pending := rfl

@[simp] theorem State.recomputePromised_lif (s : State) : (s.recomputePromised).lif = s.lif := rfl
@[simp] theorem State.recomputePromised_oft (s : State) : (s.recomputePromised).oft = s.oft := rfl
@[simp] theorem State.recomputePromised_pvw (s : State) : (s.recomputePromised).pvw = s.pvw := rfl
@[simp] theorem State.recomputePromised_sel (s : State) : (s.recomputePromised).sel = s.sel := rfl
@[simp] theorem State.recomputePromised_pkb (s : State) : (s.recomputePromised).pkb = s.pkb := rfl
@[simp] theorem State.recomputePromised_fen (s : State) : (s.recomputePromised).fen = s.fen := rfl
@[simp] theorem State.recomputePromised_drn (s : State) : (s.recomputePromised).drn = s.drn := rfl
@[simp] theorem State.recomputePromised_aru (s : State) : (s.recomputePromised).aru = s.aru := rfl
@[simp] theorem State.recomputePromised_mgt (s : State) : (s.recomputePromised).mgt = s.mgt := rfl
@[simp] theorem State.recomputePromised_counters (s : State) : (s.recomputePromised).counters = s.counters := rfl
@[simp] theorem State.recomputePromised_mem (s : State) : (s.recomputePromised).mem = s.mem := rfl
@[simp] theorem State.recomputePromised_wake (s : State) : (s.recomputePromised).wake = s.wake := rfl
@[simp] theorem State.recomputePromised_emitted (s : State) : (s.recomputePromised).emitted = s.emitted := rfl
@[simp] theorem State.recomputePromised_pending (s : State) : (s.recomputePromised).pending = s.pending := rfl

@[simp] theorem State.setSlot_lif (s : State) (id : SlotId) (x : Slot) : (s.setSlot id x).lif = s.lif := by cases id <;> rfl
@[simp] theorem State.setSlot_oft (s : State) (id : SlotId) (x : Slot) : (s.setSlot id x).oft = s.oft := by cases id <;> rfl
@[simp] theorem State.setSlot_pvw (s : State) (id : SlotId) (x : Slot) : (s.setSlot id x).pvw = s.pvw := by cases id <;> rfl
@[simp] theorem State.setSlot_sel (s : State) (id : SlotId) (x : Slot) : (s.setSlot id x).sel = s.sel := by cases id <;> rfl
@[simp] theorem State.setSlot_fen (s : State) (id : SlotId) (x : Slot) : (s.setSlot id x).fen = s.fen := by cases id <;> rfl
@[simp] theorem State.setSlot_spl (s : State) (id : SlotId) (x : Slot) : (s.setSlot id x).spl = s.spl := by cases id <;> rfl
@[simp] theorem State.setSlot_drn (s : State) (id : SlotId) (x : Slot) : (s.setSlot id x).drn = s.drn := by cases id <;> rfl
@[simp] theorem State.setSlot_aru (s : State) (id : SlotId) (x : Slot) : (s.setSlot id x).aru = s.aru := by cases id <;> rfl
@[simp] theorem State.setSlot_mgt (s : State) (id : SlotId) (x : Slot) : (s.setSlot id x).mgt = s.mgt := by cases id <;> rfl
@[simp] theorem State.setSlot_counters (s : State) (id : SlotId) (x : Slot) : (s.setSlot id x).counters = s.counters := by cases id <;> rfl
@[simp] theorem State.setSlot_mem (s : State) (id : SlotId) (x : Slot) : (s.setSlot id x).mem = s.mem := by cases id <;> rfl
@[simp] theorem State.setSlot_wake (s : State) (id : SlotId) (x : Slot) : (s.setSlot id x).wake = s.wake := by cases id <;> rfl
@[simp] theorem State.setSlot_emitted (s : State) (id : SlotId) (x : Slot) : (s.setSlot id x).emitted = s.emitted := by cases id <;> rfl
@[simp] theorem State.setSlot_pending (s : State) (id : SlotId) (x : Slot) : (s.setSlot id x).pending = s.pending := by cases id <;> rfl

@[simp] theorem State.setBuffer_lif (s : State) (i : Fin 64) (x : Buffer) : (s.setBuffer i x).lif = s.lif := by
  unfold State.setBuffer; split <;> rfl
@[simp] theorem State.setBuffer_oft (s : State) (i : Fin 64) (x : Buffer) : (s.setBuffer i x).oft = s.oft := by
  unfold State.setBuffer; split <;> rfl
@[simp] theorem State.setBuffer_pvw (s : State) (i : Fin 64) (x : Buffer) : (s.setBuffer i x).pvw = s.pvw := by
  unfold State.setBuffer; split <;> rfl
@[simp] theorem State.setBuffer_sel (s : State) (i : Fin 64) (x : Buffer) : (s.setBuffer i x).sel = s.sel := by
  unfold State.setBuffer; split <;> rfl
@[simp] theorem State.setBuffer_pkb (s : State) (i : Fin 64) (x : Buffer) : (s.setBuffer i x).pkb = s.pkb := by
  unfold State.setBuffer; split <;> rfl
@[simp] theorem State.setBuffer_fen (s : State) (i : Fin 64) (x : Buffer) : (s.setBuffer i x).fen = s.fen := by
  unfold State.setBuffer; split <;> rfl
@[simp] theorem State.setBuffer_drn (s : State) (i : Fin 64) (x : Buffer) : (s.setBuffer i x).drn = s.drn := by
  unfold State.setBuffer; split <;> rfl
@[simp] theorem State.setBuffer_aru (s : State) (i : Fin 64) (x : Buffer) : (s.setBuffer i x).aru = s.aru := by
  unfold State.setBuffer; split <;> rfl
@[simp] theorem State.setBuffer_mgt (s : State) (i : Fin 64) (x : Buffer) : (s.setBuffer i x).mgt = s.mgt := by
  unfold State.setBuffer; split <;> rfl
@[simp] theorem State.setBuffer_counters (s : State) (i : Fin 64) (x : Buffer) : (s.setBuffer i x).counters = s.counters := by
  unfold State.setBuffer; split <;> rfl
@[simp] theorem State.setBuffer_mem (s : State) (i : Fin 64) (x : Buffer) : (s.setBuffer i x).mem = s.mem := by
  unfold State.setBuffer; split <;> rfl
@[simp] theorem State.setBuffer_wake (s : State) (i : Fin 64) (x : Buffer) : (s.setBuffer i x).wake = s.wake := by
  unfold State.setBuffer; split <;> rfl
@[simp] theorem State.setBuffer_emitted (s : State) (i : Fin 64) (x : Buffer) : (s.setBuffer i x).emitted = s.emitted := by
  unfold State.setBuffer; split <;> rfl
@[simp] theorem State.setBuffer_pending (s : State) (i : Fin 64) (x : Buffer) : (s.setBuffer i x).pending = s.pending := by
  unfold State.setBuffer; split <;> rfl

@[simp] theorem State.wakeUp_wake (s : State) : s.wakeUp.wake = true := rfl
@[simp] theorem State.begin_wake (s : State) : s.begin.wake = false := rfl
@[simp] theorem State.begin_emitted (s : State) : s.begin.emitted = [] := rfl
@[simp] theorem State.emit_emitted (s : State) (x : Emission) : (s.emit x).emitted = s.emitted ++ [x] := rfl

/-- A slot written is the slot read. -/
@[simp] theorem State.setSlot_slot (s : State) (id : SlotId) (x : Slot) : (s.setSlot id x).slot id = x := by
  cases id <;> rfl

/-- The other slot is as before. -/
@[simp] theorem State.setSlot_slot_other (s : State) (id : SlotId) (x : Slot) :
    (s.setSlot id x).slot id.other = s.slot id.other := by
  cases id <;> rfl

@[simp] theorem State.setSlot_nextSeq (s : State) (id : SlotId) (x : Slot) :
    (s.setSlot id x).pkb.nextSeq = s.pkb.nextSeq := by
  cases id <;> rfl

@[simp] theorem SlotId.other_other (id : SlotId) : id.other.other = id := by cases id <;> rfl

/-- A slot is read from the pack builder alone. -/
theorem State.slot_of_pkb {s t : State} (h : t.pkb = s.pkb) (id : SlotId) : t.slot id = s.slot id := by
  cases id <;> simp [State.slot, h]

/-- A counter raised. -/
@[simp] theorem State.count_bump (s : State) (c : Ctr) : (s.bump c).count c = saturatingNext (s.count c) := by
  simp [State.count, State.bump]

theorem Ctr.index_val (c : Ctr) : c.index.val = c.ctorIdx := by
  cases c <;> rfl

theorem Ctr.ctorIdx_inj {c d : Ctr} (h : c.ctorIdx = d.ctorIdx) : c = d := by
  have e : ∀ x : Ctr, Ctr.ofNat x.ctorIdx = x := by intro x; cases x <;> rfl
  rw [← e c, ← e d, h]

theorem Ctr.index_inj {c d : Ctr} (h : c.index = d.index) : c = d :=
  Ctr.ctorIdx_inj (by rw [← Ctr.index_val, ← Ctr.index_val, h])

/-- The other counters are as before. -/
theorem State.count_bump_other (s : State) {c d : Ctr} (h : c ≠ d) : (s.bump c).count d = s.count d := by
  have hne : c.index.val ≠ d.index.val := fun e => h (Ctr.index_inj (Fin.ext e))
  simp [State.count, State.bump, Vector.getElem_set_ne _ _ hne]

/-- A counter never falls. -/
theorem saturatingNext_le (n : Counter) : n.toNat ≤ (saturatingNext n).toNat := by
  unfold saturatingNext
  split
  · exact Nat.le_refl _
  · rename_i h
    have hn : n.toNat ≠ 2 ^ 32 - 1 := fun e => h (BitVec.eq_of_toNat_eq (by simpa using e))
    rw [BitVec.toNat_add]
    have := n.isLt
    simp; omega

theorem State.count_bump_le (s : State) (c d : Ctr) : (s.count d).toNat ≤ ((s.bump c).count d).toNat := by
  by_cases h : c = d
  · subst h; rw [State.count_bump]; exact saturatingNext_le _
  · rw [State.count_bump_other s h]

end Sys2Proof.Machine
end

