-- ==== Sys2Proof/Laws/Moves.lean ====
section
/-! SUPPORT. What the shared operations can do, said once: every operation of the blocks is a run of the moves below, each of which changes
one piece of the state under the condition the manual gives. A property of states that every move keeps, every operation keeps. -/

namespace Sys2Proof.Machine

/-- One change of one piece of the state. -/
inductive Move : State → State → Prop
  | counter (s : State) (c : Ctr) : Move s (s.bump c)
  | wake (s : State) (b : Bool) : Move s (s.withWake b)
  | emitted (s : State) (xs : List Emission) : Move s (s.withEmitted xs)
  | aru (s : State) (x : Aru) (h : s.aru.bounded → x.bounded) : Move s (s.withAru x)
  | holder (s : State) (x : Option HeldFrame) (h : ∀ y, x = some y → y.refusals < 16) :
      Move s (s.withLif { s.lif with holder := x })
  | oft (s : State) (x : Oft) (h : (x.candidates.map fun c => c.file.pair).Sublist (s.oft.candidates.map fun c => c.file.pair)) :
      Move s (s.withOft x)
  | listed (s : State) (c : Candidate) (hl : s.oft.candidates.length < 1024) (hn : ∀ d ∈ s.oft.candidates, d.file.pair ≠ c.file.pair)
      (hc : ∀ d ∈ s.sel.claims, d.file.pair ≠ c.file.pair) : Move s (s.setCandidates (s.oft.candidates ++ [c]))
  | pvw (s : State) (x : Pvw) : Move s (s.withPvw x)
  | sel (s : State) (x : Sel) (h : (x.claims.map fun c => c.file.pair).Sublist (s.sel.claims.map fun c => c.file.pair)) :
      Move s (s.withSel x)
  | admitted (s : State) (c : Candidate) (k : Claim) (hc : c ∈ s.oft.candidates) (hk : k.file = c.file)
      (hl : s.sel.claims.length < s.mgt.config.pendingMax) :
      Move s ((s.setCandidates (dropCandidate c.file.pair s.oft.candidates)).withSel { s.sel with claims := s.sel.claims ++ [k] })
  | fen (s : State) (x : Fen) : Move s (s.withFen x)
  | mem (s : State) (m : Memory) (h : s.mem.wf → m.wf) : Move s (s.withMem m)
  | buffer (s : State) (i : Fin 64) (x : Buffer) : Move s (s.setBuffer i x)
  | promised (s : State) (n : Nat) : Move s (s.withSpl { s.spl with promised := n })
  | drn (s : State) (x : Drn) (h : s.drn.bounded → x.bounded) : Move s (s.withDrn x)
  | slot (s : State) (id : SlotId) (x : Slot) (h : x.state.accepting = true → (s.slot id).state.accepting = true)
      (hf : (s.slot id).state = .free → x.state = .free) : Move s (s.setSlot id x)
  | form (s : State) (id : SlotId) (x : Slot) (h : s.canForm = true) (hf : (s.slot id).state = .free)
      (hx : x.state = .forming) : Move s (s.setSlot id x)
  | done (s : State) (id : SlotId) (r : PackRecord) (h : (s.slot id).state ≠ .free) :
      Move s ((s.queueRecord r).setSlot id {})
  | seq (s : State) : Move s (s.withPkb { s.pkb with nextSeq := saturatingNext s.pkb.nextSeq })
  | quiet (s : State) (h : s.mgt.run = .quiescing) : Move s (s.withMgt { s.mgt with run := .quiet })
  | response (s : State) (x : Option Response) : Move s (s.withMgt { s.mgt with response := x })
  | readEnds (s : State) : Move s (s.withMgt { s.mgt with restarting := false })
  | recordTaken (s : State) (r : PackRecord) (rest : List PackRecord) (h : s.mgt.records = r :: rest) :
      Move s (s.withMgt { s.mgt with records := rest })

/-- A run of moves. -/
abbrev Moves : State → State → Prop := Relation.ReflTransGen Move

theorem Moves.one {s t : State} (h : Move s t) : Moves s t := .single h

theorem Moves.ite {p : Prop} [Decidable p] {s t u : State} (ht : p → Moves s t) (hu : ¬p → Moves s u) :
    Moves s (if p then t else u) := by
  split
  · exact ht ‹_›
  · exact hu ‹_›

theorem Moves.foldl {α : Type} (f : State → α → State) (h : ∀ s a, Moves s (f s a)) (l : List α) (s : State) :
    Moves s (l.foldl f s) := by
  induction l generalizing s with
  | nil => exact .refl
  | cons a l ih => exact (h s a).trans (ih _)

/-! ### Shared operations -/

theorem State.bump_moves (s : State) (c : Ctr) : Moves s (s.bump c) := .single (.counter s c)
theorem State.wakeUp_moves (s : State) : Moves s s.wakeUp := .single (.wake s true)
theorem State.withWake_moves (s : State) (b : Bool) : Moves s (s.withWake b) := .single (.wake s b)
theorem State.emit_moves (s : State) (x : Emission) : Moves s (s.emit x) := .single (.emitted s _)
theorem State.withPvw_moves (s : State) (x : Pvw) : Moves s (s.withPvw x) := .single (.pvw s x)
theorem State.withFen_moves (s : State) (x : Fen) : Moves s (s.withFen x) := .single (.fen s x)
theorem State.setBuffer_moves (s : State) (i : Fin 64) (x : Buffer) : Moves s (s.setBuffer i x) := .single (.buffer s i x)
theorem State.begin_moves (s : State) : Moves s s.begin := (Moves.one (.emitted s _)).tail (.wake _ _)

theorem State.bumpBy_moves (s : State) (c : Ctr) (n : Nat) : Moves s (s.bumpBy c n) := by
  induction n generalizing s with
  | zero => exact .refl
  | succ n ih => exact (s.bump_moves c).trans (ih _)

theorem State.queueRelease_moves (s : State) (p : FilePair) (r : ReleaseReason) : Moves s (s.queueRelease p r) := by
  unfold State.queueRelease
  refine .ite (fun h => ?_) (fun _ => s.bump_moves _)
  refine .trans (.single (.aru s _ fun _ => ?_)) (State.bump_moves _ _)
  simp only [Aru.bounded, List.length_append, List.length_singleton]
  omega

/-- A slot's record is replaced with its state left as it is. -/
theorem State.setSlot_moves (s : State) (id : SlotId) (x : Slot) (h : x.state = (s.slot id).state) :
    Moves s (s.setSlot id x) := .single (.slot s id x (fun k => h ▸ k) (fun k => h.trans k))

theorem State.clearSlot_moves (s : State) (id : SlotId) : Moves s (s.clearSlot id) :=
  (Moves.one (.slot s id {} (fun h => absurd h (by decide)) fun _ => rfl)).trans (State.wakeUp_moves _)

theorem State.modMember_moves (s : State) (r : MemberRef) (f : Member → Member) : Moves s (s.modMember r f) :=
  s.setSlot_moves _ _ rfl

theorem State.recomputePromised_moves (s : State) : Moves s s.recomputePromised := .single (.promised s _)

theorem State.freeBuffer_moves (s : State) (i : Fin 64) : Moves s (s.freeBuffer i) :=
  (s.setBuffer_moves i _).trans (State.wakeUp_moves _)

theorem State.takeBuffer_moves (s : State) (id : SlotId) (k : Nat) : Moves s (s.takeBuffer id k) := by
  unfold State.takeBuffer
  split
  · exact s.setBuffer_moves _ _
  · exact .refl

theorem State.takeBuffers_moves (s : State) (id : SlotId) (lo n : Nat) : Moves s (s.takeBuffers id lo n) :=
  Moves.foldl _ (fun s k => s.takeBuffer_moves id k) _ s

theorem State.freeBuffer_pkb (s : State) (i : Fin 64) : (s.freeBuffer i).pkb = s.pkb := State.setBuffer_pkb ..

theorem State.takeBuffers_pkb (s : State) (id : SlotId) (lo n : Nat) : (s.takeBuffers id lo n).pkb = s.pkb := by
  unfold State.takeBuffers
  generalize List.range' lo n = l
  induction l generalizing s with
  | nil => rfl
  | cons k l ih =>
    rw [List.foldl_cons, ih]
    unfold State.takeBuffer
    split
    · exact State.setBuffer_pkb ..
    · rfl

theorem State.holdThrough_moves (s : State) (id : SlotId) (y : Nat) : Moves s (s.holdThrough id y) :=
  (s.takeBuffers_moves id _ _).trans (State.setSlot_moves _ _ _ rfl)

theorem State.holdThrough_state (s : State) (id : SlotId) (y : Nat) :
    ((s.holdThrough id y).slot id).state = (s.slot id).state := by
  unfold State.holdThrough
  simp [State.slot_of_pkb (State.takeBuffers_pkb s id _ _)]

theorem Memory.wf_foldl {α : Type} (f : Memory → α → Memory) (h : ∀ (m : Memory) a, m.wf → (f m a).wf) (l : List α)
    {m : Memory} (hm : m.wf) : Memory.wf (l.foldl f m) := by
  induction l generalizing m with
  | nil => exact hm
  | cons a l ih => exact ih (h m a hm)

theorem State.writeFile_moves (s : State) (id : SlotId) (headN off : Nat) (bs : List Byte) :
    Moves s (s.writeFile id headN off bs) := by
  refine .single (.mem s _ fun h => Memory.wf_foldl _ (fun m a hm => ?_) _ h)
  split
  · exact Memory.wf_write hm _ _
  · exact hm

theorem State.writeCell_moves (s : State) (id : SlotId) (n : Nat) (bs : List Byte) : Moves s (s.writeCell id n bs) := by
  unfold State.writeCell
  split
  · exact .single (.mem s _ fun h => Memory.wf_write h _ _)
  · exact .refl

/-! ### Peer view -/

theorem State.sweepPeers_moves (s : State) : Moves s s.sweepPeers := by
  unfold State.sweepPeers
  have h := (s.withPvw_moves { s.pvw with table := s.pvw.table.filter s.isLive }).trans
    (State.bumpBy_moves _ .peerEntriesExpired (s.pvw.table.filter fun x => !s.isLive x).length)
  exact .ite (fun _ => h.trans (State.wakeUp_moves _)) fun _ => h

theorem State.triggerBeacon_moves (s : State) (id : SlotId) (p : PackPhase) : Moves s (s.triggerBeacon id p) := by
  unfold State.triggerBeacon
  exact .ite (fun _ => s.withPvw_moves _) fun _ => .refl

theorem State.triggerBeacon_pkb (s : State) (id : SlotId) (p : PackPhase) : (s.triggerBeacon id p).pkb = s.pkb := by
  unfold State.triggerBeacon; split <;> rfl

theorem State.triggerAccepting_moves (s : State) : Moves s s.triggerAccepting := by
  unfold State.triggerAccepting
  split
  · split <;> first | exact s.triggerBeacon_moves _ _ | exact .refl
  · exact .refl

theorem State.stopBeaconTimer_moves (s : State) : Moves s s.stopBeaconTimer := s.withPvw_moves _
theorem State.silenceBeacons_moves (s : State) : Moves s s.silenceBeacons := s.withPvw_moves _

theorem State.beaconTaken_moves (s : State) (x : BeaconItem) : Moves s (s.beaconTaken x) := by
  unfold State.beaconTaken
  split
  · split
    · split
      · exact s.withPvw_moves _
      · exact .refl
    · exact s.triggerAccepting_moves
  · exact .refl

/-! ### Segment pool -/

theorem fillMemberData_wf (b : Fin 64) (k : Nat) (m : Member) {mem : Memory} (h : mem.wf) :
    (fillMemberData b k m mem).wf := by
  unfold fillMemberData
  dsimp only
  split
  · exact Memory.wf_write h _ _
  · exact h

theorem commitExtent_wf (b : Fin 64) (k i : Nat) (m : Member) {mem : Memory} (h : mem.wf) :
    (commitExtent b k i m mem).wf := by
  have h' : Memory.wf (if seg m.headN = k then mem.write (cellAddr b (cellOf m.headN)) (memberHeadCell i m) else mem) := by
    split
    · exact Memory.wf_write h _ _
    · exact h
  unfold commitExtent
  dsimp only
  split
  · exact fillMemberData_wf b k m h'
  · exact h'

theorem commitManifest_wf (b : Fin 64) (epoch : Word32) (x : Slot) (k : Nat) {mem : Memory} (h : mem.wf) :
    (commitManifest b epoch x k mem).wf := by
  unfold commitManifest
  split
  · exact h
  · dsimp only
    have h' := fun (l : List Nat) (f : Nat → Nat) (g : Nat → List Byte) (p : Nat → Prop) [DecidablePred p] =>
      Memory.wf_foldl (fun (mem : Memory) j => if p j then mem.write (f j) (g j) else mem)
        (fun m a hm => by split; exact Memory.wf_write hm _ _; exact hm) l h
    split
    · exact Memory.wf_write (h' _ _ _ _) _ _
    · exact h' _ _ _ _

theorem commitContents_wf (st : Station) (epoch : Word32) (x : Slot) (b : Fin 64) (k : Nat) {mem : Memory}
    (h : mem.wf) : (commitContents st epoch x b k mem).wf := by
  unfold commitContents
  refine Memory.wf_write (commitManifest_wf b epoch x k ?_) _ _
  have h' : Memory.wf (x.members.zipIdx.foldl (fun mem mi => commitExtent b k mi.2 mi.1 mem) mem) :=
    Memory.wf_foldl _ (fun m a hm => commitExtent_wf b k _ _ hm) _ h
  split
  · exact Memory.wf_write h' _ _
  · exact h'

theorem State.commitSegment_moves (s : State) (id : SlotId) (k : Nat) (b : Fin 64) :
    Moves s (s.commitSegment id k b) := by
  unfold State.commitSegment
  dsimp only
  refine .trans ?_ (.single (.drn _ _ fun h => h))
  refine .trans ?_ (State.bump_moves _ _)
  refine .trans ?_ (State.setBuffer_moves _ b _)
  refine .trans ?_ (State.setSlot_moves _ id _ (by cases id <;> rfl))
  exact .single (.mem s _ fun h => commitContents_wf _ _ _ b k h)

theorem State.commitRun_moves (s : State) (id : SlotId) (n : Nat) : Moves s (s.commitRun id n) := by
  induction n generalizing s with
  | zero => exact .refl
  | succ n ih =>
    unfold State.commitRun
    split
    · exact (s.commitSegment_moves id _ _).trans (ih _)
    · exact .refl

theorem State.testCommit_moves (s : State) (id : SlotId) : Moves s (s.testCommit id) := s.commitRun_moves id 64

theorem State.freeUntouched_moves (s : State) (id : SlotId) (ms : List Member) : Moves s (s.freeUntouched id ms) :=
  Moves.foldl _ (fun s i => .ite (fun _ => s.freeBuffer_moves i) fun _ => .refl) _ s

theorem State.holdOrFree_moves (s : State) (id : SlotId) (ms : List Member) : Moves s (s.holdOrFree id ms) :=
  Moves.foldl _ (fun s i => .ite
    (fun _ => .ite (fun _ => s.setBuffer_moves i _) fun _ => s.freeBuffer_moves i) fun _ => .refl) _ s

theorem State.freeIdleHeld_moves (s : State) : Moves s s.freeIdleHeld :=
  Moves.foldl _ (fun s i => .ite (fun _ => s.freeBuffer_moves i) fun _ => .refl) _ s

theorem State.freeAllBuffers_moves (s : State) : Moves s s.freeAllBuffers :=
  (Moves.foldl _ (fun s i => .ite (fun _ => .refl) fun _ => s.freeBuffer_moves i) _ s).trans (.single (.promised _ 0))

end Sys2Proof.Machine
end

