-- ==== Sys2Proof/Laws/BlockMoves.lean ====
section
/-! SUPPORT. The operations of the pack builder, the fetch engine, the abort and release unit and the drain engine are runs of moves. -/

namespace Sys2Proof.Machine

/-! ### Pack builder -/

theorem State.setFetch_moves (s : State) (i : Fin 4) (x : Option Fetch) : Moves s (s.setFetch i x) := s.withFen_moves _

theorem State.takeFetch_moves (s : State) (i : Fin 4) (r : MemberRef) (m : Member) : Moves s (s.takeFetch i r m) :=
  ((s.modMember_moves r _).trans (State.setFetch_moves _ i _)).trans (State.withFen_moves _ _)

theorem State.takeFetchesN_moves (s : State) (n : Nat) : Moves s (s.takeFetchesN n) := by
  induction n generalizing s with
  | zero => exact .refl
  | succ n ih =>
    unfold State.takeFetchesN
    split
    · dsimp only
      split
      · exact ((s.withFen_moves _).trans (State.takeFetch_moves _ _ _ _)).trans (ih _)
      · exact (s.withFen_moves _).trans (ih _)
    · exact .refl

theorem State.takeFetches_moves (s : State) : Moves s s.takeFetches := s.takeFetchesN_moves 4

theorem State.queueFetch_moves (s : State) (r : MemberRef) : Moves s (s.queueFetch r) :=
  (s.withFen_moves _).trans (State.takeFetches_moves _)

theorem State.enterClosed_moves (s : State) (id : SlotId) (h : (s.slot id).state ≠ .free) :
    Moves s (s.enterClosed id) := by
  unfold State.enterClosed
  refine .trans ?_ (State.testCommit_moves _ id)
  refine .trans ?_ (State.wakeUp_moves _)
  refine .trans ?_ (State.recomputePromised_moves _)
  refine .trans ?_ (State.stopBeaconTimer_moves _)
  refine .trans ?_ (State.triggerBeacon_moves _ id _)
  refine .trans (s.holdThrough_moves id _) (.single (.slot _ id _ (fun h => absurd h Bool.false_ne_true) fun hf => ?_))
  rw [State.holdThrough_state] at hf
  exact absurd hf h

theorem State.testClose_moves (s : State) (id : SlotId) : Moves s (s.testClose id) := by
  unfold State.testClose
  refine Moves.ite (fun h => s.enterClosed_moves id ?_) fun _ => .refl
  simp only [Bool.and_eq_true, decide_eq_true_eq] at h
  rw [h.1]; decide

theorem State.closeFor_moves (s : State) (id : SlotId) (c : CloseCause) : Moves s (s.closeFor id c) := by
  unfold State.closeFor
  refine Moves.ite (fun h => ?_) fun _ => .refl
  refine .trans ?_ (State.testClose_moves _ id)
  refine .trans ?_ (State.bump_moves _ _)
  refine .trans ?_ (State.triggerBeacon_moves _ id _)
  exact .single (.slot s id _ (fun _ => by rw [h]; rfl) fun hf => by rw [h] at hf; cases hf)

theorem State.closeAccepting_moves (s : State) (c : CloseCause) : Moves s (s.closeAccepting c) := by
  unfold State.closeAccepting
  split
  · exact s.closeFor_moves _ c
  · exact .refl

theorem State.yieldNow_moves (s : State) : Moves s s.yieldNow := (s.bump_moves _).trans (State.closeAccepting_moves _ _)

theorem State.yieldCheck_moves (s : State) (id : SlotId) (xs : List PeerEntry) : Moves s (s.yieldCheck id xs) := by
  unfold State.yieldCheck
  split
  · exact Moves.ite (fun _ => s.yieldNow_moves) fun _ => .refl
  · exact .refl

theorem State.testMargin_moves (s : State) (id : SlotId) : Moves s (s.testMargin id) :=
  Moves.ite (fun _ => s.closeFor_moves id _) fun _ => .refl

theorem State.testMemberLimit_moves (s : State) (id : SlotId) : Moves s (s.testMemberLimit id) :=
  Moves.ite (fun _ => s.closeFor_moves id _) fun _ => .refl

theorem State.formSlot_moves (s : State) (id : SlotId) (k : Option Word64) : Moves s (s.formSlot id k) := by
  unfold State.formSlot
  exact Moves.ite (fun h => .single (.form s id _ h.1 h.2 rfl)) fun _ => .refl

theorem State.abandonForm_moves (s : State) (id : SlotId) : Moves s (s.abandonForm id) :=
  (s.clearSlot_moves id).trans (State.bump_moves _ _)

theorem State.claimAdmitted_moves (s : State) (id : SlotId) : Moves s (s.claimAdmitted id) :=
  s.recomputePromised_moves.trans (State.testMargin_moves _ id)

theorem State.claimEnded_moves (s : State) (id : SlotId) : Moves s (s.claimEnded id) := by
  unfold State.claimEnded
  refine .trans ?_ (State.testClose_moves _ id)
  refine .trans ?_ (State.recomputePromised_moves _)
  exact Moves.ite (fun _ => s.abandonForm_moves id) fun _ => .refl

theorem State.openPack_moves (s : State) (id : SlotId) (key : Word64) (h : (s.slot id).state = .forming) :
    Moves s (s.openPack id key) := by
  unfold State.openPack
  dsimp only
  refine .trans (b := State.bump _ .packsOpened) ?_
    (Moves.ite (fun _ => State.closeFor_moves _ id _) fun _ => State.yieldCheck_moves _ id _)
  refine .trans ?_ (State.bump_moves _ _)
  refine .trans ?_ (State.triggerBeacon_moves _ id _)
  refine .trans ?_ (.single (.seq _))
  exact .single (.slot s id _ (fun _ => by rw [h]; rfl) fun hf => by rw [h] at hf; cases hf)

theorem State.place_moves (s : State) (id : SlotId) (f : FileInfo) (key : Word64) (carried : Bool) :
    Moves s (s.place id f key carried) := by
  unfold State.place
  dsimp only
  refine .trans ?_ (State.wakeUp_moves _)
  refine .trans ?_ (State.testCommit_moves _ id)
  refine .trans ?_ (State.testClose_moves _ id)
  refine .trans ?_ (State.testMemberLimit_moves _ id)
  refine .trans ?_ (State.testMargin_moves _ id)
  refine .trans ?_ (State.recomputePromised_moves _)
  generalize hs : State.holdThrough _ id _ = u
  have hu : Moves s u := by
    subst hs
    refine .trans ?_ (State.holdThrough_moves _ id _)
    exact s.setSlot_moves id _ rfl
  refine .trans (b := if (!carried && decide (f.size ≠ 0)) = true then u.queueFetch ⟨id, (s.slot id).members.length⟩ else u)
    (hu.trans (Moves.ite (fun _ => u.queueFetch_moves _) fun _ => .refl)) ?_
  exact Moves.ite (fun h => State.openPack_moves _ id key h) fun _ => .refl

theorem State.memberSettled_moves (s : State) (id : SlotId) : Moves s (s.memberSettled id) :=
  (s.testClose_moves id).trans (State.testCommit_moves _ id)

theorem State.doneClear_moves (s : State) (id : SlotId) (r : PackRecord) (h : (s.slot id).state ≠ .free) :
    Moves s ((s.queueRecord r).clearSlot id) :=
  (Moves.one (.done s id r h)).trans (State.wakeUp_moves _)

theorem State.endPack_moves (s : State) (id : SlotId) : Moves s (s.endPack id) := by
  unfold State.endPack
  refine Moves.ite (fun h => ?_) fun _ => .refl
  exact (s.doneClear_moves id _ (by rw [h]; decide)).trans (State.bump_moves _ _)

theorem State.packEndSent_moves (s : State) (id : SlotId) : Moves s (s.packEndSent id) := by
  unfold State.packEndSent
  refine Moves.ite (fun h => ?_) fun _ => .refl
  exact .single (.slot s id _ (fun h => absurd h Bool.false_ne_true) fun hf => by rw [h] at hf; cases hf)

/-! ### Fetch engine -/

theorem State.dropFetch_moves (s : State) (i : Fin 4) : Moves s (s.dropFetch i) :=
  (s.setFetch_moves i _).trans (State.withFen_moves _ _)

theorem State.voidFetch_moves (s : State) (i : Fin 4) (x : Fetch) (w : VoidReason) (r : ReleaseReason) :
    Moves s (s.voidFetch i x w r) :=
  (((s.dropFetch_moves i).trans (State.modMember_moves _ _ _)).trans (State.queueRelease_moves _ _ _)).trans
    ((State.memberSettled_moves _ _).trans (State.takeFetches_moves _))

theorem State.completeFetch_moves (s : State) (i : Fin 4) (x : Fetch) (r : Word32) :
    Moves s (s.completeFetch i x r) := by
  unfold State.completeFetch
  refine Moves.ite (fun _ => ?_) fun _ => (s.bump_moves _).trans (State.voidFetch_moves _ _ _ _ _)
  dsimp only
  refine .trans ?_ (State.takeFetches_moves _)
  refine .trans ?_ (State.memberSettled_moves _ _)
  refine .trans ?_ (State.dropFetch_moves _ _)
  refine .trans ?_ (State.bump_moves _ _)
  refine .trans ?_ (State.modMember_moves _ _ _)
  exact Moves.ite (fun _ => s.writeFile_moves _ _ _ _) fun _ => .refl

theorem State.acceptData_moves (s : State) (i : Fin 4) (x : Fetch) (d : DataBody) : Moves s (s.acceptData i x d) := by
  unfold State.acceptData
  have h := (s.writeFile_moves x.member.slot x.headN d.offset d.payload).trans (State.bump_moves _ .dataAccepted)
  exact Moves.ite (fun _ => h.trans (State.completeFetch_moves _ _ _ _)) fun _ => h.trans (State.setFetch_moves _ _ _)

theorem State.dataArrives_moves (s : State) (st : Station) (d : DataBody) : Moves s (s.dataArrives st d) := by
  unfold State.dataArrives
  have v := fun c i x w r => (s.bump_moves c).trans (State.voidFetch_moves (s.bump c) i x w r)
  split
  · exact s.bump_moves _
  · exact Moves.ite (fun _ => v _ _ _ _ _) fun _ => Moves.ite (fun _ => v _ _ _ _ _) fun _ =>
      Moves.ite (fun _ => v _ _ _ _ _) fun _ => s.acceptData_moves _ _ _

theorem State.fetchTimesOut_moves (s : State) (i : Fin 4) : Moves s (s.fetchTimesOut i) := by
  unfold State.fetchTimesOut
  split
  · exact (s.bump_moves _).trans (State.voidFetch_moves _ _ _ _ _)
  · exact .refl

theorem State.withdrawGranted_moves (s : State) (r : MemberRef) : Moves s (s.withdrawGranted r) :=
  (((s.withFen_moves _).trans (State.modMember_moves _ r _)).trans (State.bump_moves _ _)).trans
    (State.memberSettled_moves _ _)

theorem State.withdrawFetching_moves (s : State) (r : MemberRef) : Moves s (s.withdrawFetching r) := by
  unfold State.withdrawFetching
  dsimp only
  refine .trans ?_ (State.takeFetches_moves _)
  refine .trans ?_ (State.memberSettled_moves _ _)
  refine .trans ?_ (State.bump_moves _ _)
  refine .trans ?_ (State.modMember_moves _ _ _)
  split
  · exact s.dropFetch_moves _
  · exact .refl

theorem State.abortFetches_moves (s : State) (id : SlotId) : Moves s (s.abortFetches id) :=
  ((s.withFen_moves _).trans
    (Moves.foldl _ (fun s i => Moves.ite (fun _ => s.dropFetch_moves i) fun _ => .refl) _ _)).trans
    (State.takeFetches_moves _)

theorem State.cancelAllFetches_moves (s : State) : Moves s s.cancelAllFetches := s.withFen_moves _

/-! ### Aborts -/

theorem State.freeHeldStep_moves (s : State) (id : SlotId) (i : Fin 64) :
    Moves s (match s.buffer i with
      | ⟨.held, some (x, _)⟩ => if x = id then s.freeBuffer i else s
      | _ => s) := by
  split
  · exact Moves.ite (fun _ => s.freeBuffer_moves i) fun _ => .refl
  · exact .refl

theorem State.freeHeld_moves (s : State) (id : SlotId) : Moves s (s.freeHeld id) :=
  Moves.foldl _ (fun s i => s.freeHeldStep_moves id i) _ s

theorem State.freeHeld_pkb (s : State) (id : SlotId) : (s.freeHeld id).pkb = s.pkb := by
  unfold State.freeHeld
  generalize List.finRange 64 = l
  induction l generalizing s with
  | nil => rfl
  | cons i l ih =>
    rw [List.foldl_cons, ih]
    split
    · split
      · exact State.freeBuffer_pkb ..
      · rfl
    · rfl

theorem State.carryingSlot_state {s : State} {id : SlotId} (h : s.carryingSlot = some id) :
    (s.slot id).state = .carrying := by
  unfold State.carryingSlot at h
  split at h
  · cases h; assumption
  · split at h
    · cases h; assumption
    · cases h

theorem State.endCarry_moves (s : State) : Moves s s.endCarry := by
  unfold State.endCarry
  split
  · rename_i id h
    have hs : ((s.freeHeld id).slot id).state ≠ .free := by
      rw [State.slot_of_pkb (s.freeHeld_pkb id), State.carryingSlot_state h]; decide
    refine (s.freeHeld_moves id).trans ?_
    dsimp only
    split
    · exact State.doneClear_moves _ id _ hs
    · exact State.clearSlot_moves _ id
  · exact .refl

theorem State.moveCopy_moves (s : State) (c : Copy) : Moves s (s.moveCopy c) := by
  have h : Moves s ((List.range (c.footprint - 1)).foldl (fun s i =>
      s.writeCell c.target.slot (c.targetHead + 1 + i) (s.readCell c.source (c.sourceHead + 1 + i))) s) :=
    Moves.foldl _ (fun s i => s.writeCell_moves _ _ _) _ s
  unfold State.moveCopy
  refine h.trans ?_
  dsimp only
  split
  · exact State.writeCell_moves _ _ _ _
  · exact .refl

theorem State.afterCopy_moves (s : State) : Moves s s.afterCopy := by
  unfold State.afterCopy
  refine s.freeIdleHeld_moves.trans ?_
  generalize s.freeIdleHeld = u
  exact Moves.ite (fun _ => u.endCarry_moves) fun _ => .refl

theorem State.setCopies_moves (s : State) (cs : List Copy) : Moves s (s.withAru { s.aru with copies := cs }) :=
  .single (.aru s _ fun h => h)

theorem State.completeCopy_moves (s : State) : Moves s s.completeCopy := by
  unfold State.completeCopy
  split
  · exact .refl
  · dsimp only
    refine .trans ?_ (State.afterCopy_moves _)
    refine .trans ?_ (State.bump_moves _ _)
    refine .trans ?_ (State.setCopies_moves _ _)
    exact ((s.modMember_moves _ _).trans (State.moveCopy_moves _ _)).trans (State.memberSettled_moves _ _)

theorem State.runEmptyCopies_moves (s : State) (n : Nat) : Moves s (s.runEmptyCopies n) := by
  induction n generalizing s with
  | zero => exact .refl
  | succ n ih =>
    unfold State.runEmptyCopies
    split
    · exact .refl
    · exact Moves.ite (fun _ => s.completeCopy_moves.trans (ih _)) fun _ => .refl

theorem State.startCopies_moves (s : State) : Moves s s.startCopies := s.runEmptyCopies_moves _

theorem State.stopCarry_moves (s : State) : Moves s s.stopCarry :=
  ((s.setCopies_moves _).trans (State.bumpBy_moves _ _ _)).trans (State.endCarry_moves _)

theorem State.withdrawCopying_moves (s : State) (r : MemberRef) : Moves s (s.withdrawCopying r) :=
  (((s.modMember_moves r _).trans (State.setCopies_moves _ _)).trans (State.bump_moves _ _)).trans
    (((State.memberSettled_moves _ _).trans (State.afterCopy_moves _)).trans (State.startCopies_moves _))

theorem State.issueAbandon_moves (s : State) : Moves s s.issueAbandon := by
  unfold State.issueAbandon
  split
  · refine .trans ?_ (State.bump_moves _ _)
    refine .trans ?_ (State.emit_moves _ _)
    exact .single (.drn s _ fun h => h)
  · exact .refl

theorem State.abortDrain_moves (s : State) (id : SlotId) : Moves s (s.abortDrain id) := by
  unfold State.abortDrain
  refine (Moves.one (.drn s { s.drn with queue := s.drn.queue.filter fun x => x.slot ≠ id } fun h => h)).trans ?_
  generalize s.withDrn _ = u
  dsimp only
  split
  · refine Moves.ite (fun _ => ?_) fun _ => .refl
    generalize hv : u.withDrn _ = v
    have hm : Moves u v := by subst hv; exact .single (.drn u _ fun _ => Nat.zero_le 4)
    exact hm.trans (Moves.ite (fun _ => v.issueAbandon_moves) fun _ => .refl)
  · exact .refl

theorem State.carryMembers_moves (src tgt : SlotId) (ms : List Member) (s : State) :
    Moves s (State.carryMembers src tgt ms s).1 := by
  induction ms generalizing s with
  | nil => exact .refl
  | cons m rest ih =>
    unfold State.carryMembers
    dsimp only
    generalize (if (s.slot tgt).state = .free then s.emptyRoom else s.roomOf tgt) = room
    split
    · refine .trans ?_ (ih _)
      refine .trans ?_ (State.bump_moves _ _)
      refine .trans ?_ (State.setCopies_moves _ _)
      refine .trans ?_ (State.place_moves _ tgt _ _ _)
      exact Moves.ite (fun _ => s.formSlot_moves tgt _) fun _ => .refl
    · exact .refl

theorem State.queueReleases_moves (s : State) (rs : List Release) : Moves s (s.queueReleases rs) :=
  Moves.foldl _ (fun s _ => s.queueRelease_moves _ _) _ s

/-- What is left of the pending table keeps its pairs in their order. -/
theorem orphanClaims_pairs (id : SlotId) (cs : List Claim) :
    ((orphanClaims id cs).map fun c => c.file.pair).Sublist (cs.map fun c => c.file.pair) := by
  unfold orphanClaims
  induction cs with
  | nil => exact .slnil
  | cons c cs ih =>
    rw [List.filterMap_cons, List.map_cons]
    by_cases h : c.slot = some id
    · rw [if_pos h]
      cases c.phase with
      | waiting => exact ih.cons _
      | sent t => exact ih.cons_cons _
    · rw [if_neg h]
      exact ih.cons_cons _

theorem SlotState.abortable_ne_free {x : SlotState} (h : x.abortable = true) : x ≠ .free := by
  rintro rfl; cases h

theorem State.abortBegin_moves (s : State) (id : SlotId) (c : AbortCause) (h : (s.slot id).state ≠ .free) :
    Moves s (s.abortBegin id c) := by
  unfold State.abortBegin
  dsimp only
  refine .trans ?_ (State.abortDrain_moves _ id)
  refine .trans ?_ (State.abortFetches_moves _ id)
  refine .trans ?_ (.single (.sel _ _ (orphanClaims_pairs ..)))
  refine .trans ?_ (State.recomputePromised_moves _)
  generalize hu : (if (s.slot id).state.accepting = true then
    ((s.bump c.counter).triggerBeacon id .aborted).stopBeaconTimer else (s.bump c.counter).triggerBeacon id .aborted) = u
  have hp : u.pkb = s.pkb := by
    subst hu
    split
    · exact State.triggerBeacon_pkb ..
    · exact State.triggerBeacon_pkb ..
  have hm : Moves s u := by
    subst hu
    have h := (s.bump_moves c.counter).trans (State.triggerBeacon_moves _ id .aborted)
    exact Moves.ite (fun _ => h.trans (State.stopBeaconTimer_moves _)) fun _ => h
  refine hm.trans (.single (.slot u id _ (fun h => absurd h Bool.false_ne_true) fun hf => ?_))
  rw [State.slot_of_pkb hp] at hf
  exact absurd hf h

theorem State.countIf_moves (s : State) (b : Bool) (c : Ctr) : Moves s (if b then s.bump c else s) :=
  Moves.ite (fun _ => s.bump_moves c) fun _ => .refl

theorem State.abortPlan_moves (s : State) (id : SlotId) (o : List Member) (t : Option SlotId) :
    Moves s (s.abortPlan id o t).1 := by
  unfold State.abortPlan
  cases t with
  | none =>
    dsimp only
    refine .trans ?_ (State.countIf_moves _ _ _)
    refine .trans ?_ (State.holdOrFree_moves _ id _)
    exact s.freeUntouched_moves id _
  | some t =>
    dsimp only
    refine .trans ?_ (State.countIf_moves _ _ _)
    refine .trans ?_ (State.holdOrFree_moves _ id _)
    exact (s.freeUntouched_moves id _).trans (State.carryMembers_moves _ _ _ _)

theorem State.stopCarryInto_moves (s : State) (id : SlotId) (cs : List Copy) : Moves s (s.stopCarryInto id cs) :=
  Moves.ite (fun _ => s.stopCarry_moves) fun _ => .refl

theorem State.abortFinish_moves (s : State) (id : SlotId) (n : Nat) (r : PackRecord) :
    Moves s (s.abortFinish id n r) := by
  unfold State.abortFinish
  refine Moves.ite (fun h => Moves.ite (fun _ => s.doneClear_moves id r (by rw [h]; decide)) fun _ => ?_) fun _ => .refl
  refine .trans ?_ (State.startCopies_moves _)
  exact .single (.slot s id _ (fun h => absurd h Bool.false_ne_true) fun hf => by rw [h] at hf; cases hf)

theorem State.abortPack_moves (s : State) (id : SlotId) (c : AbortCause) : Moves s (s.abortPack id c) := by
  unfold State.abortPack
  refine Moves.ite (fun h => ?_) fun _ => .refl
  dsimp only
  refine .trans ?_ (State.abortFinish_moves _ id _ _)
  refine .trans ?_ (State.stopCarryInto_moves _ id _)
  refine .trans ?_ (State.queueReleases_moves _ _)
  exact (s.abortBegin_moves id c (SlotState.abortable_ne_free h)).trans (State.abortPlan_moves _ id _ _)

theorem State.abandonIfForming_moves (s : State) (id : SlotId) : Moves s (s.abandonIfForming id) :=
  Moves.ite (fun _ => s.abandonForm_moves id) fun _ => .refl

theorem State.abortEverything_moves (s : State) (c : AbortCause) : Moves s (s.abortEverything c) := by
  unfold State.abortEverything
  dsimp only
  refine .trans ?_ (State.freeAllBuffers_moves _)
  refine .trans ?_ (Moves.foldl _ (fun s id => s.abortPack_moves id c) _ _)
  refine .trans ?_ (State.stopCarry_moves _)
  refine .trans ?_ (State.abandonIfForming_moves _ _)
  refine .trans ?_ (State.abandonIfForming_moves _ _)
  refine .trans ?_ (State.silenceBeacons_moves _)
  refine .trans ?_ (State.cancelAllFetches_moves _)
  exact .single (.sel s _ (List.nil_sublist _))

/-! ### Drain engine -/

theorem State.startDrainTimeout_moves (s : State) : Moves s s.startDrainTimeout :=
  Moves.ite (fun _ => .single (.drn s _ fun h => h)) fun _ => .refl

theorem State.startDrainTimeout_window (s : State) : s.startDrainTimeout.drn.window = s.drn.window := by
  unfold State.startDrainTimeout; split <;> rfl

theorem State.startPack_moves (s : State) (x : DrainEntry) : Moves s (s.startPack x) := by
  unfold State.startPack
  refine .trans ?_ (State.bump_moves _ _)
  refine .trans ?_ (State.emit_moves _ _)
  exact .single (.drn s _ fun h => h)

theorem State.sendSegment_moves (s : State) (c : CurrentPack) (x : DrainEntry) (rest : List DrainEntry)
    (cells : List Byte) (h : s.drn.window.length < 4) : Moves s (s.sendSegment c x rest cells) := by
  unfold State.sendSegment
  dsimp only
  refine .trans ?_ (State.bump_moves _ _)
  refine .trans ?_ (State.emit_moves _ _)
  refine .trans ((s.setBuffer_moves _ _).trans (State.startDrainTimeout_moves _)) (.single (.drn _ _ fun _ => ?_))
  simp only [Drn.bounded, List.length_append, List.length_singleton, State.startDrainTimeout_window, State.setBuffer_drn]
  omega

theorem State.damagedSegment_moves (s : State) (c : CurrentPack) (x : DrainEntry) (rest : List DrainEntry) :
    Moves s (s.damagedSegment c x rest) :=
  (Moves.one (.drn s { s.drn with queue := rest } fun h => h)).trans
    (((State.setBuffer_moves _ _ _).trans (State.bump_moves _ _)).trans (State.abortPack_moves _ _ _))

theorem State.sendPackEnd_moves (s : State) (c : CurrentPack) (mf : Manifest) (h : s.drn.window.length < 4) :
    Moves s (s.sendPackEnd c mf) := by
  unfold State.sendPackEnd
  dsimp only
  refine .trans ?_ (State.packEndSent_moves _ _)
  refine .trans ?_ (State.bump_moves _ _)
  refine .trans ?_ (State.emit_moves _ _)
  refine .trans s.startDrainTimeout_moves (.single (.drn _ _ fun _ => ?_))
  simp only [Drn.bounded, List.length_append, List.length_singleton, State.startDrainTimeout_window]
  omega

theorem State.nextIssue_moves {s t : State} (h : s.nextIssue = some t) : Moves s t := by
  unfold State.nextIssue at h
  split at h
  · cases h
  split at h
  · cases h; exact s.issueAbandon_moves
  split at h
  · cases h
  · cases h; exact s.startPack_moves _
  rename_i c _
  split at h
  · rename_i hw
    have hp : ∀ {t}, (s.packEndDue c).map (s.sendPackEnd c) = some t → Moves s t := by
      intro t ht
      rw [Option.map_eq_some_iff] at ht
      obtain ⟨mf, _, rfl⟩ := ht
      exact s.sendPackEnd_moves c mf hw
    dsimp only at h
    split at h
    · rename_i x rest _
      generalize s.readBuffer x.buffer = cells at h
      split at h
      · cases h
        exact Moves.ite (fun _ => s.sendSegment_moves _ _ _ _ hw) fun _ => s.damagedSegment_moves _ _ _
      · exact hp h
    · exact hp h
  · cases h

theorem State.storeBuffer_moves (s : State) (id : SlotId) (k : Nat) : Moves s (s.storeBuffer id k) := by
  unfold State.storeBuffer
  split
  · exact Moves.ite (fun _ => (s.freeBuffer_moves _).trans (State.bump_moves _ _)) fun _ => .refl
  · exact .refl

theorem State.acceptStored_moves (s : State) (c : CurrentPack) (w : WindowMsg) (rest : List WindowMsg)
    (h : s.drn.window = w :: rest) : Moves s (s.acceptStored c w rest) := by
  unfold State.acceptStored
  have h1 : Moves s ((s.retimeWindow rest).bump .storedAccepted) := by
    refine .trans (.single (.drn s _ fun hb => ?_)) (State.bump_moves _ _)
    simp only [Drn.bounded, h, List.length_cons] at hb ⊢
    omega
  refine h1.trans ?_
  dsimp only
  split
  · refine .trans ?_ (State.storeBuffer_moves _ _ _)
    exact .single (.drn _ _ fun h => h)
  · refine .trans ?_ (State.endPack_moves _ _)
    exact .single (.drn _ _ fun h => h)

theorem State.portDown_moves (s : State) : Moves s s.portDown := .single (.drn s _ fun h => h)

theorem State.acceptFault_moves (s : State) (c : CurrentPack) (r : FaultReason) : Moves s (s.acceptFault c r) := by
  cases r
  · exact (s.bump_moves _).trans (State.abortPack_moves _ _ _)
  · exact ((s.bump_moves _).trans (State.portDown_moves _)).trans (State.abortPack_moves _ _ _)

theorem State.drainTimesOut_moves (s : State) : Moves s s.drainTimesOut := by
  unfold State.drainTimesOut
  dsimp only
  generalize hu : (s.bump .drainTimeouts).portDown = u
  have hm : Moves s u := by subst hu; exact (s.bump_moves _).trans (State.portDown_moves _)
  generalize hv : u.withDrn _ = v
  have hn : Moves u v := by subst hv; exact .single (.drn u _ fun h => h)
  refine hm.trans (hn.trans ?_)
  split
  · exact v.abortPack_moves _ _
  · exact .refl

end Sys2Proof.Machine
end

