-- ==== Sys2Proof/Laws/Bytes.lean ====
section
/-! SUPPORT. Little-endian fields written and read back, and ranges of the memory cut and read back. -/

namespace Sys2Proof.Machine

@[simp] theorem le_length (k n : Nat) : (le k n).length = k := by
  induction k generalizing n with
  | zero => rfl
  | succ k ih => simp [le, ih]

/-- A field reads back as the number it was written from, as far as it fits. -/
theorem ofLe_le (k n : Nat) : ofLe (le k n) = n % 256 ^ k := by
  induction k generalizing n with
  | zero => simp [le, ofLe, Nat.mod_one]
  | succ k ih =>
    simp only [le, ofLe, ih, BitVec.toNat_ofNat]
    rw [show (256 : Nat) ^ (k + 1) = 256 * 256 ^ k by rw [Nat.pow_succ, Nat.mul_comm], Nat.mod_mul]

/-- The field that stands right behind the bytes before it. -/
theorem fieldAt_here (pre field rest : List Byte) (off len : Nat) (h : off = pre.length) (hl : len = field.length) :
    fieldAt (pre ++ (field ++ rest)) off len = ofLe field := by
  subst h hl
  unfold fieldAt
  rw [List.drop_left, List.take_left]

/-- A field past the first bytes is the field of the bytes behind them. -/
theorem fieldAt_skip (pre rest : List Byte) (off len : Nat) (h : pre.length ≤ off) :
    fieldAt (pre ++ rest) off len = fieldAt rest (off - pre.length) len := by
  unfold fieldAt
  rw [List.drop_append, List.drop_eq_nil_of_le h, List.nil_append]

/-- A field at the front. -/
theorem fieldAt_front (k n : Nat) (rest : List Byte) : fieldAt (le k n ++ rest) 0 k = n % 256 ^ k := by
  rw [← List.nil_append (le k n ++ rest), fieldAt_here [] _ _ 0 k rfl (by simp), ofLe_le]

/-- A field alone. -/
theorem fieldAt_alone (k n : Nat) : fieldAt (le k n) 0 k = n % 256 ^ k := by
  simpa using fieldAt_front k n []

theorem Memory.readRange_take (m : Memory) (a n k : Nat) (h : k ≤ n) : (m.readRange a n).take k = m.readRange a k := by
  unfold Memory.readRange
  rw [← List.map_take, List.take_range, Nat.min_eq_left h]

theorem Memory.readRange_drop (m : Memory) (a n k : Nat) : (m.readRange a n).drop k = m.readRange (a + k) (n - k) := by
  unfold Memory.readRange
  apply List.ext_getElem
  · simp
  · intro i h1 h2
    simp [Nat.add_assoc]

/-- Bytes written are read back. -/
theorem Memory.readRange_write_here (m : Memory) (a : Nat) (bs : List Byte) :
    (m.write a bs).readRange a bs.length = bs := by
  unfold Memory.readRange
  apply List.ext_getElem
  · simp
  · intro i h1 h2
    simpa using Memory.read_write_here m a bs i h2

/-- A range that a write does not meet reads as before. -/
theorem Memory.readRange_write_other (m : Memory) (a : Nat) (bs : List Byte) (b n : Nat)
    (h : b + n ≤ a ∨ a + bs.length ≤ b) : (m.write a bs).readRange b n = m.readRange b n := by
  unfold Memory.readRange
  refine List.map_congr_left fun i hi => ?_
  have := List.mem_range.1 hi
  exact Memory.read_write_other m a bs _ (by omega)

/-- A field of a range is the field at its own address. -/
theorem Memory.fieldAt_readRange (m : Memory) (a n off len : Nat) (h : off + len ≤ n) :
    fieldAt (m.readRange a n) off len = ofLe (m.readRange (a + off) len) := by
  unfold fieldAt
  rw [Memory.readRange_drop, Memory.readRange_take _ _ _ _ (by omega)]

end Sys2Proof.Machine
end

