-- ==== Sys2Proof/Laws/Cells.lean ====
section
/-! SUPPORT. What the shared operations over cells and buffers leave: a checked cell, and the buffers taken. -/

namespace Sys2Proof.Machine

/-- A checked cell carries its fields, zeros behind them, and its check (R11, R13). -/
theorem checkedCell_layout (fields : List Byte) (h4 : 4 ≤ fields.length) (h : fields.length ≤ 508) :
    checkedLayout (checkedCell fields) (fields.take 4) fields.length := by
  have hp : (padTo 508 fields).length = 508 := by simp only [padTo, List.length_append, List.length_replicate]; omega
  refine ⟨by simp [checkedCell, hp], ?_, fun i h1 h2 => ?_, ?_⟩
  · unfold checkedCell padTo
    rw [List.append_assoc, List.take_append_of_le_length h4]
  · unfold checkedCell
    rw [List.getElem?_append_left (by omega)]
    unfold padTo
    rw [List.getElem?_append_right h1, List.getElem?_replicate, if_pos (by omega)]
  · have ht : (checkedCell fields).take 508 = padTo 508 fields := by
      unfold checkedCell
      rw [List.take_append_of_le_length (by omega), List.take_of_length_le (by omega)]
    rw [ht]
    unfold checkedCell
    rw [fieldAt_skip _ _ _ _ (by omega), hp, fieldAt_alone]
    exact Nat.mod_eq_of_lt (crc32 (padTo 508 fields)).isLt

/-- Writing a buffer that is not RETIRED writes it, and no other. -/
theorem State.setBuffer_buffer (s : State) (i j : Fin 64) (x : Buffer) (h : (s.buffer i).state ≠ .retired) :
    (s.setBuffer i x).buffer j = if j = i then x else s.buffer j := by
  unfold State.setBuffer
  rw [if_neg h]
  unfold State.buffer
  by_cases e : j = i
  · subst e; simp [State.withSpl]
  · rw [if_neg e]
    simp [State.withSpl, Fin.val_ne_of_ne (Ne.symm e)]

/-- Taking buffers does what R144 says: the lowest-numbered FREE ones, in increasing segment order, and no other. -/
theorem State.takeBuffers_takes (s : State) (id : SlotId) (lo n : Nat) : s.takesBuffers (s.takeBuffers id lo n) id lo n := by
  induction n generalizing s lo with
  | zero => exact ⟨fun j i hj => absurd hj (Nat.not_lt_zero j), fun i _ => rfl⟩
  | succ n ih =>
    have step : s.takeBuffers id lo (n + 1) = (s.takeBuffer id lo).takeBuffers id (lo + 1) n := rfl
    rw [step]
    have ih := ih (s.takeBuffer id lo) (lo + 1)
    unfold State.takesBuffers at ih ⊢
    cases hf : (List.finRange 64).filter fun i => (s.buffer i).state = .free with
    | nil =>
      have hn : s.takeBuffer id lo = s := by
        unfold State.takeBuffer
        rw [← List.head?_filter, hf]; rfl
      rw [hn, hf] at ih
      rw [hn]
      exact ⟨fun j i _ e => by simp at e, fun i _ => ih.2 i fun j _ e => by simp at e⟩
    | cons i rest =>
      have hi : (s.buffer i).state = .free := by
        have : i ∈ (List.finRange 64).filter fun i => (s.buffer i).state = .free := hf ▸ List.mem_cons_self
        simpa using (List.mem_filter.1 this).2
      have ht : s.takeBuffer id lo = s.setBuffer i ⟨.filling, some (id, lo)⟩ := by
        unfold State.takeBuffer
        rw [← List.head?_filter, hf]; rfl
      have hb (j : Fin 64) : (s.takeBuffer id lo).buffer j = if j = i then ⟨.filling, some (id, lo)⟩ else s.buffer j := by
        rw [ht]; exact s.setBuffer_buffer i j _ (by rw [hi]; decide)
      have hd : (i :: rest).Nodup := hf ▸ (List.nodup_finRange 64).filter _
      have hr : ((List.finRange 64).filter fun j => ((s.takeBuffer id lo).buffer j).state = .free) = rest := by
        have : ((List.finRange 64).filter fun j => ((s.takeBuffer id lo).buffer j).state = .free) =
            ((List.finRange 64).filter fun j => (s.buffer j).state = .free).filter fun j => j ≠ i := by
          rw [List.filter_filter]
          refine List.filter_congr fun j _ => ?_
          rw [hb]
          by_cases e : j = i <;> simp [e]
        rw [this, hf, List.filter_cons_of_neg (by simp)]
        exact List.filter_eq_self.2 fun j hj => by
          have : j ≠ i := fun e => (List.nodup_cons.1 hd).1 (e ▸ hj)
          simpa using this
      rw [hr] at ih
      refine ⟨fun j k hj e => ?_, fun k hk => ?_⟩
      · cases j with
        | zero =>
          have e : i = k := by simpa using e
          subst e
          have hne : ∀ j, j < n → rest[j]? ≠ some i := fun j _ h => (List.nodup_cons.1 hd).1 (List.mem_of_getElem? h)
          rw [ih.2 i hne, hb, if_pos rfl]; rfl
        | succ j =>
          have e : rest[j]? = some k := by simpa using e
          rw [ih.1 j k (by omega) e, Nat.add_assoc, Nat.add_comm 1 j]
      · have hk0 : k ≠ i := fun e => hk 0 (by omega) (by simp [e])
        rw [ih.2 k fun j hj e => hk (j + 1) (by omega) (by simpa using e), hb, if_neg hk0]

end Sys2Proof.Machine
end

