-- ==== Sys2Proof/Laws/UnitMoves.lean ====
section
/-! SUPPORT. The operations of the offer table, the selector, the link interface, the drain port's receive side and the timers are runs of
moves. -/

namespace Sys2Proof.Machine

/-! ### Candidate list -/

@[simp] theorem State.setCandidates_candidates (s : State) (cs : List Candidate) :
    (s.setCandidates cs).oft.candidates = cs := rfl

theorem State.setSublist_moves (s : State) (cs : List Candidate) (h : cs.Sublist s.oft.candidates) :
    Moves s (s.setCandidates cs) := .single (.oft s _ (h.map _))

theorem State.mapCandidates_moves (s : State) (f : Candidate → Candidate) (h : ∀ c, (f c).file.pair = c.file.pair) :
    Moves s (s.setCandidates (s.oft.candidates.map f)) := by
  refine .single (.oft s _ ?_)
  rw [List.map_map, show (fun c : Candidate => c.file.pair) ∘ f = fun c => c.file.pair from funext h]

theorem dropCandidate_sublist (p : FilePair) (cs : List Candidate) : (dropCandidate p cs).Sublist cs :=
  List.filter_sublist

theorem State.notifyIfFrozen_moves (s : State) : Moves s s.notifyIfFrozen :=
  Moves.ite (fun _ => s.wakeUp_moves) fun _ => .refl

theorem State.addCandidate_moves (s : State) (f : FileInfo) (hl : s.oft.candidates.length < 1024)
    (hn : ∀ c ∈ s.oft.candidates, c.file.pair ≠ f.pair) (hc : ∀ c ∈ s.sel.claims, c.file.pair ≠ f.pair) :
    Moves s (s.addCandidate f) := by
  unfold State.addCandidate
  exact (Moves.one (.listed s ⟨f, s.keyNow f.tag, s.mgt.clock, none⟩ hl hn hc)).trans (State.notifyIfFrozen_moves _)

theorem State.replaceCandidate_moves (s : State) (f : FileInfo) : Moves s (s.replaceCandidate f) := by
  unfold State.replaceCandidate
  refine .trans (s.mapCandidates_moves _ fun c => ?_) (State.notifyIfFrozen_moves _)
  split
  · rename_i h; exact h.symm
  · rfl

theorem State.candidate_none {s : State} {p : FilePair} (h : ¬ (s.candidate? p).isSome = true) :
    ∀ c ∈ s.oft.candidates, c.file.pair ≠ p := by
  intro c hc hp
  apply h
  unfold State.candidate?
  rw [List.find?_isSome]
  exact ⟨c, hc, by simpa using hp⟩

theorem State.claim_none {s : State} {p : FilePair} (h : ¬ s.heldHere p = true) : ∀ c ∈ s.sel.claims, c.file.pair ≠ p := by
  intro c hc hp
  apply h
  unfold State.heldHere State.claim?
  rw [Bool.or_eq_true, List.find?_isSome]
  exact Or.inl ⟨c, hc, by simpa using hp⟩

theorem makeRoom_length (cs : List Candidate) : (makeRoom cs).length < 1024 := by
  unfold makeRoom
  rw [List.length_drop]; omega

theorem State.offerArrives_moves (s : State) (f : FileInfo) : Moves s (s.offerArrives f) := by
  unfold State.offerArrives
  refine Moves.ite (fun _ => s.bump_moves _) fun hh => Moves.ite (fun _ => ?_) fun _ =>
    Moves.ite (fun _ => s.replaceCandidate_moves f) fun hn => Moves.ite (fun hl => ?_) fun hl => ?_
  · exact (s.setSublist_moves _ (dropCandidate_sublist _ _)).trans (State.bump_moves _ _)
  · exact s.addCandidate_moves f hl (State.candidate_none hn) (State.claim_none hh)
  · refine .trans ?_ (State.addCandidate_moves _ f ?_ ?_ fun c hc => ?_)
    · refine .trans ?_ (State.bump_moves _ _)
      exact s.setSublist_moves _ (List.drop_sublist _ _)
    · rw [State.bump_oft, State.setCandidates_candidates]; exact makeRoom_length _
    · intro c hc
      rw [State.bump_oft, State.setCandidates_candidates] at hc
      exact State.candidate_none hn c (List.mem_of_mem_drop hc)
    · exact State.claim_none hh c hc

theorem State.removeCandidate_moves (s : State) (p : FilePair) (c : Ctr) : Moves s (s.removeCandidate p c) := by
  unfold State.removeCandidate
  exact Moves.ite (fun _ => (s.setSublist_moves _ (dropCandidate_sublist _ _)).trans (State.bump_moves _ _)) fun _ => .refl

theorem State.claimHeard_moves (s : State) (p : FilePair) : Moves s (s.claimHeard p) :=
  s.mapCandidates_moves _ fun c => by split <;> rfl

theorem State.contestExpires_moves (s : State) (p : FilePair) : Moves s (s.contestExpires p) :=
  (s.mapCandidates_moves _ fun c => by split <;> rfl).trans (State.wakeUp_moves _)

/-! ### Selector -/

theorem State.setClaims_moves (s : State) (cs : List Claim)
    (h : (cs.map fun c => c.file.pair).Sublist (s.sel.claims.map fun c => c.file.pair)) :
    Moves s (s.withSel { s.sel with claims := cs }) :=
  .single (.sel s _ h)

theorem State.formSlot_sel (s : State) (id : SlotId) (k : Option Word64) : (s.formSlot id k).sel = s.sel := by
  unfold State.formSlot
  split
  · cases id <;> rfl
  · rfl

theorem State.formSlot_mgt (s : State) (id : SlotId) (k : Option Word64) : (s.formSlot id k).mgt = s.mgt := by
  unfold State.formSlot
  split
  · cases id <;> rfl
  · rfl

theorem State.formSlot_oft (s : State) (id : SlotId) (k : Option Word64) : (s.formSlot id k).oft = s.oft := by
  unfold State.formSlot
  split
  · cases id <;> rfl
  · rfl

theorem State.admit_moves (s : State) (c : Candidate) (hc : c ∈ s.oft.candidates)
    (h : s.sel.claims.length < s.mgt.config.pendingMax) : Moves s (s.admitCandidate c) := by
  unfold State.admitCandidate
  dsimp only
  refine .trans ?_ (State.claimAdmitted_moves _ _)
  generalize hu : (if s.accepting.isNone = true then
    s.formSlot (s.accepting.getD s.formingSlot) (some (c.key.getD 0)) else s) = u
  have hm : Moves s u := by
    subst hu
    exact Moves.ite (fun _ => State.formSlot_moves _ _ _) fun _ => .refl
  have hs : u.sel = s.sel ∧ u.mgt = s.mgt ∧ u.oft = s.oft := by
    subst hu
    split
    · exact ⟨State.formSlot_sel .., State.formSlot_mgt .., State.formSlot_oft ..⟩
    · exact ⟨rfl, rfl, rfl⟩
  exact hm.trans (.single (.admitted u c _ (by rw [hs.2.2]; exact hc) rfl (by rw [hs.1, hs.2.1]; exact h)))

/-- A round takes one of the candidates it is given. -/
theorem State.best_mem {s : State} {cs : List Candidate} {c : Candidate} {n : Nat} (h : s.best cs = some (c, n)) : c ∈ cs := by
  induction cs generalizing c n with
  | nil => cases h
  | cons d cs ih =>
    unfold State.best at h
    split at h
    · rename_i m e k h1 h2
      split at h <;> cases h
      · exact List.mem_cons_of_mem _ (ih h2)
      · exact List.mem_cons_self
    · cases h
      exact List.mem_cons_self
    · exact List.mem_cons_of_mem _ (ih h)

theorem State.selectionRound_moves (s : State) : Moves s s.selectionRound := by
  unfold State.selectionRound
  refine Moves.ite (fun h => ?_) fun _ => .refl
  split
  · refine Moves.ite (fun _ => s.admit_moves _ (State.best_mem ‹_›) ?_) fun _ => .refl
    unfold State.roundRuns at h
    simp only [Bool.and_eq_true, decide_eq_true_eq] at h
    exact h.1.2
  · exact .refl

theorem State.roundIfWoken_moves (s : State) : Moves s s.roundIfWoken := by
  unfold State.roundIfWoken
  exact Moves.ite (fun _ => (s.withWake_moves _).trans (State.selectionRound_moves _)) fun _ => .refl

theorem State.removeClaim_moves (s : State) (p : FilePair) : Moves s (s.removeClaim p) :=
  s.setClaims_moves _ (List.filter_sublist.map _)

theorem State.endClaim_moves (s : State) (c : Claim) (k : Ctr) : Moves s (s.endClaim c k) := by
  unfold State.endClaim
  dsimp only
  refine .trans ((s.removeClaim_moves c.file.pair).trans (State.bump_moves _ k)) ?_
  refine .trans ?_ (State.wakeUp_moves _)
  split
  · exact State.claimEnded_moves _ _
  · exact .refl

theorem State.endClaimOf_moves (s : State) (p : FilePair) (k : Ctr) : Moves s (s.endClaimOf p k) := by
  unfold State.endClaimOf
  split
  · exact s.endClaim_moves _ _
  · exact .refl

theorem State.grantedHere_moves (s : State) (p : FilePair) : Moves s (s.grantedHere p) := by
  unfold State.grantedHere
  split
  · refine (s.removeClaim_moves p).trans ?_
    generalize s.removeClaim p = u
    dsimp only
    split
    · exact (u.bump_moves _).trans (State.place_moves _ _ _ _ _)
    · exact ((u.queueRelease_moves _ _).trans (State.bump_moves _ _)).trans (State.wakeUp_moves _)
  · exact Moves.ite (fun _ => s.bump_moves _) fun _ => (s.queueRelease_moves _ _).trans (State.bump_moves _ _)

theorem State.grantedElsewhere_moves (s : State) (p : FilePair) : Moves s (s.grantedElsewhere p) :=
  (s.removeCandidate_moves _ _).trans (State.endClaimOf_moves _ _ _)

theorem State.refusedHere_moves (s : State) (p : FilePair) (r : RefuseReason) : Moves s (s.refusedHere p r) := by
  unfold State.refusedHere
  split
  · exact s.endClaim_moves _ _
  · exact s.bump_moves _

theorem State.refusedElsewhere_moves (s : State) (p : FilePair) (r : RefuseReason) :
    Moves s (s.refusedElsewhere p r) := by
  cases r
  · exact s.removeCandidate_moves _ _
  · exact s.removeCandidate_moves _ _
  · exact .refl

theorem State.withdrawnMember_moves (s : State) (p : FilePair) : Moves s (s.withdrawnMember p) := by
  unfold State.withdrawnMember
  split
  · exact .refl
  · split
    · exact s.withdrawGranted_moves _
    · exact s.withdrawGranted_moves _
    · exact s.withdrawFetching_moves _
    · exact s.withdrawFetching_moves _
    · exact s.withdrawCopying_moves _
    · exact s.withdrawCopying_moves _
    · exact ((s.modMember_moves _ _).trans (State.bump_moves _ _)).trans (State.testClose_moves _ _)
    · exact ((s.modMember_moves _ _).trans (State.bump_moves _ _)).trans (State.testClose_moves _ _)
    · exact s.bump_moves _
    · exact s.bump_moves _
    · exact .refl

theorem State.withdrawArrives_moves (s : State) (p : FilePair) : Moves s (s.withdrawArrives p) :=
  ((s.removeCandidate_moves _ _).trans (State.endClaimOf_moves _ _ _)).trans (State.withdrawnMember_moves _ _)

/-! ### Link interface -/

theorem State.setHolder_moves (s : State) (x : Option HeldFrame) (h : ∀ y, x = some y → y.refusals < 16) :
    Moves s (s.withLif { s.lif with holder := x }) := .single (.holder s x h)

theorem State.hold_moves (s : State) (bytes : List Byte) : Moves s (s.hold bytes) :=
  s.setHolder_moves _ fun y hy => by cases hy; exact Nat.zero_lt_succ 15

theorem State.takeRelease_moves (s : State) (r : Release) (rest : List Release) (h : s.aru.releases = r :: rest) :
    Moves s (s.takeRelease r rest) := by
  unfold State.takeRelease
  refine .trans ?_ (State.hold_moves _ _)
  refine .trans ?_ (State.bump_moves _ _)
  refine .single (.aru s _ fun hb => ?_)
  simp only [Aru.bounded, h, List.length_cons] at hb ⊢
  omega

theorem State.takeFetchItem_moves (s : State) (i : Fin 4) (rest : List (Fin 4)) : Moves s (s.takeFetchItem i rest) := by
  unfold State.takeFetchItem
  refine (s.withFen_moves { s.fen with items := rest }).trans ?_
  generalize s.withFen _ = u
  dsimp only
  split
  · refine .trans ?_ (State.hold_moves _ _)
    exact (u.setFetch_moves _ _).trans (State.bump_moves _ _)
  · exact .refl

theorem State.takeClaim_moves (s : State) (c : Claim) : Moves s (s.takeClaim c) := by
  unfold State.takeClaim
  dsimp only
  refine .trans ?_ (State.wakeUp_moves _)
  refine .trans ?_ (State.hold_moves _ _)
  refine .trans ?_ (State.bump_moves _ _)
  refine s.setClaims_moves _ ?_
  rw [List.map_map, List.map_congr_left (g := fun c => c.file.pair)]
  intro d _
  dsimp only [Function.comp]
  split <;> rfl

theorem State.takeBeacon_moves (s : State) (x : BeaconItem) (rest : List BeaconItem) : Moves s (s.takeBeacon x rest) :=
  ((s.withPvw_moves _).trans (State.hold_moves _ _)).trans (State.beaconTaken_moves _ _)

theorem State.arbiterChoice_moves (s : State) : Moves s s.arbiterChoice := by
  unfold State.arbiterChoice
  split
  · exact s.takeRelease_moves _ _ ‹_›
  · exact s.takeFetchItem_moves _ _
  · refine Moves.ite (fun _ => ?_) fun _ => .refl
    split
    · exact s.takeClaim_moves _
    · exact s.takeBeacon_moves _ _
    · exact .refl

theorem State.arbitrate_moves (s : State) : Moves s s.arbitrate :=
  Moves.ite (fun _ => .refl) fun _ => s.arbiterChoice_moves

theorem State.testQuiet_moves (s : State) : Moves s s.testQuiet := by
  unfold State.testQuiet
  refine Moves.ite (fun h => ?_) fun _ => .refl
  unfold State.quietNow at h
  simp only [Bool.and_eq_true, decide_eq_true_eq] at h
  exact (Moves.one (.quiet s h.1.1.1)).trans (State.silenceBeacons_moves _)

theorem State.settle_moves (s : State) : Moves s s.settle :=
  (s.arbitrate_moves.trans (State.roundIfWoken_moves _)).trans
    (((State.arbitrate_moves _).trans (State.roundIfWoken_moves _)).trans (State.testQuiet_moves _))

theorem State.mediumTakes_moves (s : State) : Moves s s.mediumTakes := by
  unfold State.mediumTakes
  split
  · refine .trans ?_ (State.settle_moves _)
    refine .trans ?_ (State.bump_moves _ _)
    refine .trans ?_ (State.emit_moves _ _)
    exact s.setHolder_moves none fun y hy => by cases hy
  · exact .refl

theorem State.mediumRefuses_moves (s : State) : Moves s s.mediumRefuses := by
  unfold State.mediumRefuses
  split
  · refine Moves.ite (fun h => s.setHolder_moves _ fun y hy => ?_) fun _ => ?_
    · cases hy; exact h
    · refine .trans ?_ (State.settle_moves _)
      refine .trans ?_ (State.bump_moves _ _)
      exact s.setHolder_moves none fun y hy => by cases hy
  · exact .refl

theorem State.receive_moves {α : Type} (s : State) (k : Byte) (f : Frame) (r : Frame → Station → Option α)
    (g : State → Station → α → State)
    (h : ∀ u st x, Moves u (g u st x)) : Moves s (s.receive k f r g) := by
  unfold State.receive
  refine Moves.ite (fun _ => .refl) fun _ => Moves.ite (fun _ => s.bump_moves _) fun _ => ?_
  split
  · exact s.bump_moves _
  · split
    · exact s.bump_moves _
    · exact Moves.ite (fun _ => s.bump_moves _) fun _ => (s.bump_moves _).trans (h _ _ _)

theorem State.beaconArrives_moves (s : State) (st : Station) (p : PackPhase) (k : Word64) (n : Nat) :
    Moves s (s.beaconArrives st p k n) := by
  have h1 : ∀ (u : State) (x : PeerEntry) (k : Option Word64),
      Moves u (if u.heldKey x = k then u else u.wakeUp) :=
    fun u _ _ => Moves.ite (fun _ => .refl) fun _ => u.wakeUp_moves
  have h2 : ∀ (u : State) (x : PeerEntry), Moves u (if p = .opened then
      match u.accepting with
      | some id => u.yieldCheck id [x]
      | none => u
    else u) := by
    intro u x
    refine Moves.ite (fun _ => ?_) fun _ => .refl
    split
    · exact u.yieldCheck_moves _ _
    · exact .refl
  exact ((s.withPvw_moves _).trans (State.bump_moves _ _)).trans ((h1 _ _ _).trans (h2 _ _))

theorem State.receiveOffer_moves (s : State) (f : Frame) : Moves s (s.receiveOffer f) :=
  s.receive_moves _ _ _ _ fun u _ x => (u.offerArrives_moves x).trans (State.settle_moves _)

theorem State.receiveWithdraw_moves (s : State) (f : Frame) : Moves s (s.receiveWithdraw f) :=
  s.receive_moves _ _ _ _ fun u _ _ => (u.withdrawArrives_moves _).trans (State.settle_moves _)

theorem State.receiveGrant_moves (s : State) (f : Frame) : Moves s (s.receiveGrant f) :=
  s.receive_moves _ _ _ _ fun u _ _ =>
    (Moves.ite (fun _ => u.grantedHere_moves _) fun _ => u.grantedElsewhere_moves _).trans (State.settle_moves _)

theorem State.receiveRefuse_moves (s : State) (f : Frame) : Moves s (s.receiveRefuse f) :=
  s.receive_moves _ _ _ _ fun u _ _ =>
    (Moves.ite (fun _ => u.refusedHere_moves _ _) fun _ => u.refusedElsewhere_moves _ _).trans (State.settle_moves _)

theorem State.receiveData_moves (s : State) (f : Frame) : Moves s (s.receiveData f) :=
  s.receive_moves _ _ _ _ fun u _ _ =>
    Moves.ite (fun _ => (u.dataArrives_moves _ _).trans (State.settle_moves _)) fun _ => u.bump_moves _

theorem State.receiveClaim_moves (s : State) (f : Frame) : Moves s (s.receiveClaim f) :=
  s.receive_moves _ _ _ _ fun u _ _ => u.claimHeard_moves _

theorem State.receiveFetch_moves (s : State) (f : Frame) : Moves s (s.receiveFetch f) :=
  s.receive_moves _ _ _ _ fun u _ _ => u.bump_moves _

theorem State.receiveRelease_moves (s : State) (f : Frame) : Moves s (s.receiveRelease f) :=
  s.receive_moves _ _ _ _ fun u _ _ => u.bump_moves _

theorem State.receiveBeacon_moves (s : State) (f : Frame) : Moves s (s.receiveBeacon f) :=
  s.receive_moves _ _ _ _ fun u _ _ => (u.beaconArrives_moves _ _ _ _).trans (State.settle_moves _)

theorem State.receiveAny_moves (s : State) (k : Byte) (f : Frame) : Moves s (s.receiveAny k f) := by
  unfold State.receiveAny
  exact Moves.ite (fun _ => s.receiveOffer_moves f) fun _ => Moves.ite (fun _ => s.receiveWithdraw_moves f) fun _ =>
    Moves.ite (fun _ => s.receiveGrant_moves f) fun _ => Moves.ite (fun _ => s.receiveRefuse_moves f) fun _ =>
    Moves.ite (fun _ => s.receiveData_moves f) fun _ => Moves.ite (fun _ => s.receiveClaim_moves f) fun _ =>
    Moves.ite (fun _ => s.receiveFetch_moves f) fun _ => Moves.ite (fun _ => s.receiveRelease_moves f) fun _ =>
    Moves.ite (fun _ => s.receiveBeacon_moves f) fun _ => s.receive_moves _ _ _ _ fun _ _ _ => .refl

theorem State.receiveBytes_moves (s : State) (bs : List Byte) : Moves s (s.receiveBytes bs) := by
  unfold State.receiveBytes
  split
  · exact s.receiveAny_moves _ _
  · exact Moves.ite (fun _ => .refl) fun _ => s.bump_moves _

theorem State.receiveReady_moves (s : State) (fs : List Byte) : Moves s (s.receiveReady fs) := by
  unfold State.receiveReady
  refine Moves.ite (fun _ => ?_) fun _ => s.bump_moves _
  split
  · exact s.bump_moves _
  · refine .trans ?_ (State.settle_moves _)
    refine .trans ?_ (State.bump_moves _ _)
    exact .single (.drn s _ fun h => h)

theorem State.storedMatch_window {s : State} {b : StoredBody} {c : CurrentPack} {w : WindowMsg} {rest : List WindowMsg}
    (h : s.storedMatch b = some (c, w, rest)) : s.drn.window = w :: rest := by
  unfold State.storedMatch at h
  split at h
  · split at h
    · cases h; assumption
    · cases h
  · cases h

theorem State.receiveStored_moves (s : State) (fs : List Byte) : Moves s (s.receiveStored fs) := by
  unfold State.receiveStored
  split
  · exact s.bump_moves _
  · split
    · exact (s.acceptStored_moves _ _ _ (State.storedMatch_window ‹_›)).trans (State.settle_moves _)
    · exact s.bump_moves _

theorem State.receiveFault_moves (s : State) (fs : List Byte) : Moves s (s.receiveFault fs) := by
  unfold State.receiveFault
  split
  · exact s.bump_moves _
  · split
    · exact (s.acceptFault_moves _ _).trans (State.settle_moves _)
    · exact s.bump_moves _

theorem State.receiveMessage_moves (s : State) (m : List Byte) : Moves s (s.receiveMessage m) := by
  unfold State.receiveMessage
  split
  · exact Moves.ite (fun _ => s.receiveStored_moves _) fun _ => Moves.ite (fun _ => s.receiveFault_moves _) fun _ =>
      Moves.ite (fun _ => s.receiveReady_moves _) fun _ => s.bump_moves _
  · exact s.bump_moves _

/-! ### Timers -/

theorem State.contestTimer_moves (s : State) (p : FilePair) : Moves s (s.contestTimer p) :=
  Moves.ite (fun _ => (s.contestExpires_moves p).trans (State.settle_moves _)) fun _ => .refl

theorem State.peerSweepTimer_moves (s : State) : Moves s s.peerSweepTimer :=
  Moves.ite (fun _ => ((s.withPvw_moves _).trans (State.sweepPeers_moves _)).trans (State.settle_moves _)) fun _ => .refl

theorem State.selectorTimer_moves (s : State) : Moves s s.selectorTimer := by
  unfold State.selectorTimer
  refine Moves.ite (fun _ => ?_) fun _ => .refl
  refine .trans ?_ (State.settle_moves _)
  refine .trans ?_ (State.wakeUp_moves _)
  exact .single (.sel s _ (List.Sublist.refl _))

theorem State.beaconExpires_moves (s : State) : Moves s s.beaconExpires :=
  Moves.ite (fun _ => (s.stopBeaconTimer_moves.trans (State.triggerAccepting_moves _)).trans (State.settle_moves _))
    fun _ => .refl

theorem State.claimTimer_moves (s : State) (p : FilePair) : Moves s (s.claimTimer p) :=
  Moves.ite (fun _ => (s.endClaimOf_moves p _).trans (State.settle_moves _)) fun _ => .refl

theorem State.ageTimer_moves (s : State) : Moves s s.ageTimer :=
  Moves.ite (fun _ => (s.closeAccepting_moves _).trans (State.settle_moves _)) fun _ => .refl

theorem State.fetchTimer_moves (s : State) (i : Fin 4) : Moves s (s.fetchTimer i) :=
  Moves.ite (fun _ => (s.fetchTimesOut_moves i).trans (State.settle_moves _)) fun _ => .refl

theorem State.drainTimer_moves (s : State) : Moves s s.drainTimer :=
  Moves.ite (fun _ => s.drainTimesOut_moves.trans (State.settle_moves _)) fun _ => .refl

end Sys2Proof.Machine
end

