-- ==== Sys2Proof/Laws/Turns.lean ====
section
/-! SUPPORT. What a command can do, said once: a run of moves, with, for the commands of the management unit and of the pool, the changes of
the management unit's own state between them. -/

namespace Sys2Proof.Machine

/-- A move, or a change of the management unit's state that leaves the record queue, or a step of the self-test; the next sequence is set to 0
where `epoch` allows it. -/
inductive Turn (epoch : Bool) : State → State → Prop
  | move {s t : State} (h : Move s t) : Turn epoch s t
  | mgt (s : State) (m : Mgt) (h : m.records = s.mgt.records) (hc : ConfigInRange s.mgt.config → ConfigInRange m.config) :
      Turn epoch s (s.withMgt m)
  | tested (s : State) (n : Nat) : Turn epoch s (s.withSpl { s.spl with tested := n })
  | newEpoch (s : State) (h : epoch = true) : Turn epoch s (s.withPkb { s.pkb with nextSeq := 0 })

/-- A run of turns. -/
abbrev Turns (epoch : Bool) : State → State → Prop := Relation.ReflTransGen (Turn epoch)

theorem Moves.turns {s t : State} (h : Moves s t) (e : Bool) : Turns e s t := by
  induction h with
  | refl => exact .refl
  | tail _ m ih => exact ih.tail (.move m)

theorem Turns.ite {e : Bool} {p : Prop} [Decidable p] {s t u : State} (ht : p → Turns e s t) (hu : ¬p → Turns e s u) :
    Turns e s (if p then t else u) := by
  split
  · exact ht ‹_›
  · exact hu ‹_›

theorem Turns.mgt {e : Bool} (s : State) (m : Mgt) (h : m.records = s.mgt.records)
    (hc : ConfigInRange s.mgt.config → ConfigInRange m.config) : Turns e s (s.withMgt m) := .single (.mgt s m h hc)

/-! ### Management -/

theorem State.answer_moves (s : State) (st : Status) (data : List Byte) : Moves s (s.answer st data) := by
  unfold State.answer
  refine .trans ?_ (State.bump_moves _ _)
  refine .trans (s.countIf_moves s.responseUnread .responsesReplacedUnread) ?_
  exact .single (.response _ _)

theorem State.command_turns (e : Bool) (s : State) (short out : Bool) (allowed : RunState → Bool) (act : State → State)
    (h : allowed s.mgt.run = true → Turns e s (act s)) : Turns e s (s.command short out allowed act) := by
  unfold State.command
  refine Turns.ite (fun _ => (s.answer_moves _ _).turns e) fun _ => Turns.ite (fun _ => (s.answer_moves _ _).turns e) fun _ =>
    Turns.ite (fun _ => (s.answer_moves _ _).turns e) fun _ => Turns.ite (fun _ => (s.answer_moves _ _).turns e) fun ha => ?_
  exact h (by simpa using ha)

theorem clamp_bounds {lo hi : Nat} (h : lo ≤ hi) (n : Nat) : lo ≤ clamp lo hi n ∧ clamp lo hi n ≤ hi := by
  unfold clamp; omega

theorem ofLe_lt (bs : List Byte) : ofLe bs < 256 ^ bs.length := by
  induction bs with
  | nil => simp [ofLe]
  | cons b bs ih =>
    have := b.isLt
    simp only [ofLe, List.length_cons, Nat.pow_succ]
    omega

theorem fieldAt_lt (b : List Byte) (off len : Nat) : fieldAt b off len < 256 ^ len := by
  exact (ofLe_lt _).trans_le (Nat.pow_le_pow_right (by decide) (by simp))

/-- The record a CONFIGURE with a valid mask brings is in range. -/
theorem readConfig_inRange (b : List Byte) (h : maskValid (readConfig b).keyMask = true) : ConfigInRange (readConfig b) := by
  have hm := fieldAt_lt b 23 2
  have c := fun lo hi (h : lo ≤ hi) n => clamp_bounds h n
  exact ⟨(c 0 63 (by decide) _).2, h, (c 32 16384 (by decide) _).1, (c 32 16384 (by decide) _).2,
    Nat.le_of_lt_succ hm, (c 0 3600 (by decide) _).2, (c 0 1023 (by decide) _).2,
    (c 1 60 (by decide) _).1, (c 1 60 (by decide) _).2, (c 10 10000 (by decide) _).1, (c 10 10000 (by decide) _).2,
    (c 1 8 (by decide) _).1, (c 1 8 (by decide) _).2, (c 10 10000 (by decide) _).1, (c 10 10000 (by decide) _).2,
    (c 1 4 (by decide) _).1, (c 1 4 (by decide) _).2, (c 10 86400 (by decide) _).1, (c 10 86400 (by decide) _).2,
    (c 100 60000 (by decide) _).1, (c 100 60000 (by decide) _).2⟩

theorem State.configured_turns (s : State) (c : ConfigRecord) (h : ConfigInRange c) : Turns true s (s.configured c) := by
  unfold State.configured
  refine .trans (Turns.ite (fun _ => .refl) fun _ => .single (.newEpoch s rfl)) (.single (.mgt _ _ rfl fun _ => h))

theorem State.takeConfigure_turns (s : State) (ps : List Byte) : Turns true s (s.takeConfigure ps) := by
  refine s.command_turns true _ _ _ _ fun _ => Turns.ite (fun h => ?_) fun _ => (s.answer_moves _ _).turns true
  exact (s.configured_turns _ (readConfig_inRange _ h)).trans ((State.answer_moves _ _ _).turns true)

theorem State.started_turns (e : Bool) (s : State) : Turns e s s.started := by
  unfold State.started
  dsimp only
  refine .trans ?_ ((State.wakeUp_moves _).turns e)
  refine .trans ?_ (.single (.move (.sel _ _ (List.Sublist.refl _))))
  refine .trans ?_ ((State.withFen_moves _ _).turns e)
  refine .trans ?_ ((State.withPvw_moves _ _).turns e)
  refine .trans ?_ ((State.mapCandidates_moves _ (Candidate.atStart _) fun _ => rfl).turns e)
  exact Turns.mgt s _ rfl fun h => h

theorem State.takeStart_turns (e : Bool) (s : State) : Turns e s s.takeStart := by
  refine s.command_turns e _ _ _ _ fun _ => Turns.ite (fun _ => (s.answer_moves _ _).turns e) fun _ => ?_
  exact (s.started_turns e).trans (Moves.turns ((State.answer_moves _ _ _).trans (State.settle_moves _)) e)

theorem State.takeCloseNow_turns (e : Bool) (s : State) : Turns e s s.takeCloseNow :=
  s.command_turns e _ _ _ _ fun _ =>
    Moves.turns (((s.closeAccepting_moves _).trans (State.answer_moves _ _ _)).trans (State.settle_moves _)) e

theorem State.takeQuiesce_turns (e : Bool) (s : State) : Turns e s s.takeQuiesce := by
  refine s.command_turns e _ _ _ _ fun _ => ?_
  dsimp only
  refine .trans ?_ ((State.settle_moves _).turns e)
  refine .trans ?_ ((State.answer_moves _ _ _).turns e)
  refine .trans ?_ ((State.closeAccepting_moves _ _).turns e)
  refine .trans ?_ (.single (.move (.sel _ _ (List.Sublist.refl _))))
  exact Turns.mgt s _ rfl fun h => h

theorem State.takeResume_turns (e : Bool) (s : State) : Turns e s s.takeResume := by
  refine s.command_turns e _ _ _ _ fun _ => ?_
  dsimp only
  refine .trans ?_ ((State.settle_moves _).turns e)
  refine .trans ?_ ((State.answer_moves _ _ _).turns e)
  refine .trans ?_ ((State.wakeUp_moves _).turns e)
  refine .trans ?_ (.single (.move (.sel _ _ (List.Sublist.refl _))))
  exact Turns.mgt s _ rfl fun h => h

theorem State.takeRecord_turns (e : Bool) (s : State) : Turns e s s.takeRecord := by
  refine s.command_turns e _ _ _ _ fun _ => ?_
  split
  · exact (s.answer_moves _ _).turns e
  · refine .trans ?_ ((State.settle_moves _).turns e)
    refine .trans ?_ ((State.answer_moves _ _ _).turns e)
    refine .trans ?_ ((State.wakeUp_moves _).turns e)
    exact .single (.move (.recordTaken s _ _ ‹_›))

theorem State.restartCandidates_moves (s : State) : Moves s s.restartCandidates := by
  unfold State.restartCandidates
  refine Moves.ite (fun _ => ?_) fun _ => s.mapCandidates_moves _ fun _ => rfl
  exact s.setSublist_moves [] (List.nil_sublist _)

theorem State.restarted_turns (e : Bool) (s : State) : Turns e s s.restarted := by
  unfold State.restarted
  dsimp only
  generalize hu : (s.withMgt _).abortEverything .restart = u
  have hm : Turns e s u := by
    subst hu
    refine .trans ?_ ((State.abortEverything_moves _ _).turns e)
    exact Turns.mgt s _ rfl fun h => h
  refine .trans ?_ ((State.withPvw_moves _ _).turns e)
  refine .trans ?_ ((State.restartCandidates_moves _).turns e)
  exact hm.trans (Turns.mgt u _ rfl fun h => h)

theorem State.takeRestart_turns (e : Bool) (s : State) : Turns e s s.takeRestart := by
  refine s.command_turns e _ _ _ _ fun _ => ?_
  exact (s.restarted_turns e).trans (Moves.turns ((State.answer_moves _ _ _).trans (State.settle_moves _)) e)

theorem State.enterHalted_turns (e : Bool) (s : State) : Turns e s s.enterHalted := by
  unfold State.enterHalted
  refine .trans ?_ ((State.settle_moves _).turns e)
  refine .trans ?_ ((State.abortEverything_moves _ _).turns e)
  refine .trans ?_ ((State.bump_moves _ _).turns e)
  exact Turns.mgt s _ rfl fun h => h

theorem State.takeIdentify_turns (e : Bool) (s : State) : Turns e s s.takeIdentify :=
  s.command_turns e _ _ _ _ fun _ => (s.answer_moves _ _).turns e

theorem State.takeCounters_turns (e : Bool) (s : State) (ps : List Byte) : Turns e s (s.takeCounters ps) :=
  s.command_turns e _ _ _ _ fun _ => (s.answer_moves _ _).turns e

theorem State.takeRunMode_turns (e : Bool) (s : State) (ps : List Byte) : Turns e s (s.takeRunMode ps) := by
  unfold State.takeRunMode
  exact Turns.ite (fun _ => (s.answer_moves _ _).turns e) fun _ => Turns.ite (fun _ => (s.answer_moves _ _).turns e) fun _ =>
    Turns.ite (fun _ => s.takeCloseNow_turns _) fun _ => Turns.ite (fun _ => s.takeQuiesce_turns e) fun _ =>
    Turns.ite (fun _ => s.takeResume_turns e) fun _ => (s.answer_moves _ _).turns e

theorem State.takeMode_turns (e : Bool) (s : State) (f : ModeForm) (m : Byte) (ps : List Byte) (g : State → State)
    (h : Turns e s (g s)) : Turns e s (s.takeMode f m ps g) := by
  cases f
  · exact h
  · exact s.takeRunMode_turns e _

theorem State.takeWrite_turns (s : State) (w : List Byte) : Turns true s (s.takeWrite w) := by
  unfold State.takeWrite
  split
  · exact .refl
  · exact Turns.ite (fun _ => (s.answer_moves _ _).turns true) fun _ => Turns.ite (fun _ => (s.answer_moves _ _).turns true) fun _ =>
      Turns.ite (fun _ => s.takeIdentify_turns true) fun _ => Turns.ite (fun _ => s.takeCounters_turns true _) fun _ =>
      Turns.ite (fun _ => s.takeConfigure_turns _) fun _ => Turns.ite (fun _ => s.takeStart_turns true) fun _ =>
      Turns.ite (fun _ => s.takeRunMode_turns true _) fun _ => Turns.ite (fun _ => s.takeCloseNow_turns _) fun _ =>
      Turns.ite (fun _ => s.takeQuiesce_turns true) fun _ => Turns.ite (fun _ => s.takeResume_turns true) fun _ =>
      Turns.ite (fun _ => s.takeRecord_turns true) fun _ => Turns.ite (fun _ => s.takeRestart_turns true) fun _ =>
      (s.answer_moves _ _).turns true

theorem State.readResponse_moves (s : State) (n : Nat) : Moves s (s.readResponse n) := by
  unfold State.readResponse
  dsimp only
  refine .trans ?_ (State.emit_moves _ _)
  refine .trans (b := s.withMgt { s.mgt with response := s.mgt.response.map fun r => { r with read := true } }) ?_ ?_
  · exact .single (.response s _)
  · exact .single (.readEnds _)

theorem State.selfTest_turns (e : Bool) (s : State) (r55 rAA : List Host.Cell) : Turns e s (s.selfTest r55 rAA) := by
  unfold State.selfTest
  split
  · rename_i h
    dsimp only
    generalize hu : s.testBuffer ⟨s.spl.tested, h.2⟩ r55 rAA = u
    have hm : Moves s u := by
      subst hu
      unfold State.testBuffer
      have hc := Moves.one (.mem s (s.mem.clear (cellAddr ⟨s.spl.tested, h.2⟩ 0) bufferBytes) fun hw => Memory.wf_clear hw _ _)
      exact hc.trans (Moves.ite (fun _ => (State.setBuffer_moves _ _ _).trans (State.bump_moves _ _)) fun _ => .refl)
    generalize hv : u.withSpl { u.spl with tested := s.spl.tested + 1 } = v
    have hn : Turns e u v := by subst hv; exact .single (.tested u _)
    exact (hm.turns e).trans (hn.trans (Turns.ite (fun _ => Turns.mgt _ _ rfl fun h => h) fun _ => .refl))
  · exact .refl

/-! ### With no command waiting -/

/-- What the part does by itself: the report of R154 joins the queue, or one issue of the next-message choice, or time passes. -/
theorem State.idle_cases (s : State) :
    s.idle = s.withPending [.entryToHalted] ∨ Moves s s.idle ∨ s.idle = s.tick := by
  unfold State.idle
  split
  · exact .inl rfl
  · split
    · rename_i t h
      exact .inr (.inl ((s.begin_moves.trans (State.nextIssue_moves h)).trans t.settle_moves))
    · exact .inr (.inr rfl)

/-! ### The commands -/

/-- The commands that can bring a new epoch. -/
def Instr.bringsEpoch : Instr → Bool
  | .configure _ | .unknownCommand _ => true
  | _ => false

/-- Every command but HARD_RESET answers a next state that a run of turns reaches. -/
theorem exec_turns (c : Instr) (s : State) (h : ∀ p, c ≠ .hardReset p) :
    ∃ t, exec c s = .next t ∧ Turns (Instr.bringsEpoch c) s t := by
  have b : ∀ e, Turns e s s.begin := fun e => s.begin_moves.turns e
  cases c with
  | hardReset p => exact absurd rfl (h p)
  | bufferSelfTest r55 rAA => exact ⟨_, rfl, (b _).trans (State.selfTest_turns _ _ _ _)⟩
  | entryToHalted => exact ⟨_, rfl, Turns.ite (fun _ => (b _).trans (State.enterHalted_turns _ _)) fun _ => b _⟩
  | offer f => exact ⟨_, rfl, (b _).trans ((State.receiveOffer_moves _ f).turns _)⟩
  | withdraw f => exact ⟨_, rfl, (b _).trans ((State.receiveWithdraw_moves _ f).turns _)⟩
  | grant f => exact ⟨_, rfl, (b _).trans ((State.receiveGrant_moves _ f).turns _)⟩
  | refuse f => exact ⟨_, rfl, (b _).trans ((State.receiveRefuse_moves _ f).turns _)⟩
  | data f => exact ⟨_, rfl, (b _).trans ((State.receiveData_moves _ f).turns _)⟩
  | claim f => exact ⟨_, rfl, (b _).trans ((State.receiveClaim_moves _ f).turns _)⟩
  | fetch f => exact ⟨_, rfl, (b _).trans ((State.receiveFetch_moves _ f).turns _)⟩
  | release f => exact ⟨_, rfl, (b _).trans ((State.receiveRelease_moves _ f).turns _)⟩
  | beacon f => exact ⟨_, rfl, (b _).trans ((State.receiveBeacon_moves _ f).turns _)⟩
  | mediumTakesFrame => exact ⟨_, rfl, (b _).trans ((State.mediumTakes_moves _).turns _)⟩
  | mediumRefusesFrame => exact ⟨_, rfl, (b _).trans ((State.mediumRefuses_moves _).turns _)⟩
  | contestExpiry st t => exact ⟨_, rfl, (b _).trans ((State.contestTimer_moves _ _).turns _)⟩
  | peerSweep => exact ⟨_, rfl, (b _).trans ((State.peerSweepTimer_moves _).turns _)⟩
  | sweepTimer => exact ⟨_, rfl, (b _).trans ((State.selectorTimer_moves _).turns _)⟩
  | beaconTimer => exact ⟨_, rfl, (b _).trans ((State.beaconExpires_moves _).turns _)⟩
  | claimTimeout st t => exact ⟨_, rfl, (b _).trans ((State.claimTimer_moves _ _).turns _)⟩
  | ageDeadline => exact ⟨_, rfl, (b _).trans ((State.ageTimer_moves _).turns _)⟩
  | fetchTimeout i => exact ⟨_, rfl, (b _).trans ((State.fetchTimer_moves _ i).turns _)⟩
  | drainTimeout => exact ⟨_, rfl, (b _).trans ((State.drainTimer_moves _).turns _)⟩
  | ready fs => exact ⟨_, rfl, (b _).trans ((State.receiveReady_moves _ fs).turns _)⟩
  | stored fs => exact ⟨_, rfl, (b _).trans ((State.receiveStored_moves _ fs).turns _)⟩
  | fault fs => exact ⟨_, rfl, (b _).trans ((State.receiveFault_moves _ fs).turns _)⟩
  | copyCompletion =>
    refine ⟨_, rfl, Turns.ite (fun _ => b _) fun _ => (b _).trans (Moves.turns ?_ _)⟩
    exact .trans ((State.completeCopy_moves _).trans (State.startCopies_moves _)) (State.settle_moves _)
  | identify ps => exact ⟨_, rfl, (b _).trans (State.takeIdentify_turns _ _)⟩
  | status ps => exact ⟨_, rfl, (b _).trans ((State.answer_moves _ _ _).turns _)⟩
  | counters ps => exact ⟨_, rfl, (b _).trans (State.takeCounters_turns _ _ ps)⟩
  | configure ps => exact ⟨_, rfl, (b _).trans (State.takeConfigure_turns _ ps)⟩
  | start ps => exact ⟨_, rfl, (b _).trans (State.takeStart_turns _ _)⟩
  | closeNow f ps => exact ⟨_, rfl, (b _).trans (State.takeMode_turns _ _ f 1 ps _ (State.takeCloseNow_turns _ _))⟩
  | quiesce f ps => exact ⟨_, rfl, (b _).trans (State.takeMode_turns _ _ f 2 ps _ (State.takeQuiesce_turns _ _))⟩
  | resume f ps => exact ⟨_, rfl, (b _).trans (State.takeMode_turns _ _ f 3 ps _ (State.takeResume_turns _ _))⟩
  | takeRecord ps => exact ⟨_, rfl, (b _).trans (State.takeRecord_turns _ _)⟩
  | restart ps => exact ⟨_, rfl, (b _).trans (State.takeRestart_turns _ _)⟩
  | unknownCommand w => exact ⟨_, rfl, (b _).trans (State.takeWrite_turns _ w)⟩
  | responseRead n => exact ⟨_, rfl, (b _).trans ((State.readResponse_moves _ n).turns _)⟩
  | checkErrorFrame bs => exact ⟨_, rfl, (b _).trans ((State.receiveBytes_moves _ bs).turns _)⟩
  | unknownKindFrame k f => exact ⟨_, rfl, (b _).trans ((State.receiveAny_moves _ k f).turns _)⟩
  | unknownDrainMessage m => exact ⟨_, rfl, (b _).trans ((State.receiveMessage_moves _ m).turns _)⟩

end Sys2Proof.Machine
end

