-- ==== Sys2Proof/Laws/Settling.lean ====
section
/-! SUPPORT. When a step is its command's own event and nothing more, and when a frame reaches its owners. -/

namespace Sys2Proof.Machine

/-! ### The settling of a step at rest -/

theorem State.arbitrate_full {s : State} (h : s.lif.holder.isSome = true) : s.arbitrate = s := by
  unfold State.arbitrate
  rw [if_pos (Or.inr h)]

theorem State.withWake_self {s : State} (h : s.wake = false) : s.withWake false = s := by
  cases s; simp only [State.withWake] at *; simp [h]

theorem State.selectionRound_held {s : State} (h : s.roundRuns = false) : s.selectionRound = s := by
  unfold State.selectionRound; rw [h]; rfl

theorem State.roundRuns_withWake (s : State) (b : Bool) : (s.withWake b).roundRuns = s.roundRuns := rfl

theorem State.roundIfWoken_held {s : State} (h : s.roundRuns = false) : s.roundIfWoken = s.withWake false := by
  unfold State.roundIfWoken
  split
  · exact State.selectionRound_held h
  · exact (State.withWake_self (by simpa using ‹¬ s.wake = true›)).symm

theorem State.selectionRound_empty {s : State} (h : s.oft.candidates = []) : s.selectionRound = s := by
  unfold State.selectionRound
  rw [h]
  exact ite_self _

/-- A FULL holder, a round that changes nothing and no QUIET: the settling only spends the wake-ups. -/
theorem State.settle_spends {s : State} (hl : s.holderFull) (hr : (s.withWake false).selectionRound = s.withWake false)
    (hq : s.quietNow = false) : s.settle = s.withWake false := by
  have hw : s.roundIfWoken = s.withWake false := by
    unfold State.roundIfWoken
    split
    · exact hr
    · exact (State.withWake_self (by simpa using ‹¬ s.wake = true›)).symm
  have hw' : (s.withWake false).roundIfWoken = s.withWake false := rfl
  unfold State.settle
  rw [State.arbitrate_full hl, hw, State.arbitrate_full (s := s.withWake false) hl, hw']
  unfold State.testQuiet
  have hq' : (s.withWake false).quietNow = false := hq
  rw [hq']
  rfl

theorem State.roundsHeld_runs {s : State} (h : s.roundsHeld) : s.roundRuns = false := by
  unfold State.roundRuns
  rcases h with h | h | ⟨h, h'⟩
  · simp [h]
  · have : s.sel.claims.all (fun c => !c.isWaiting) = false := by
      rw [Bool.eq_false_iff]; intro k
      rw [List.all_eq_true] at k
      obtain ⟨c, hc, hw⟩ := List.any_eq_true.1 h
      simpa [hw] using k c hc
    simp [this]
  · simp [h, h']

theorem State.noneToAdmit_round {s : State} (h : s.noneToAdmit) : s.selectionRound = s := by
  rcases h with h | h
  · exact State.selectionRound_held (by unfold State.roundRuns; simp [h])
  · exact State.selectionRound_empty h

theorem State.settle_atRest {s : State} (h : s.atRest) : s.settle = s.withWake false :=
  State.settle_spends h.1 (State.selectionRound_held (s := s.withWake false) (State.roundsHeld_runs h.2.1)) h.2.2

theorem State.settle_noneToAdmit {s : State} (hl : s.holderFull) (hr : s.noneToAdmit) (hq : s.quietNow = false) :
    s.settle = s.withWake false :=
  State.settle_spends hl (State.noneToAdmit_round (s := s.withWake false) hr) hq

/-- A state that differs from one at rest elsewhere than in the pack builder, the holder, the management unit, the pending
table and the release list is at rest. -/
theorem State.atRest_congr {s t : State} (h : s.atRest) (hp : t.pkb = s.pkb) (hl : t.lif = s.lif)
    (hm : t.mgt = s.mgt) (hs : t.sel = s.sel) (ha : t.aru = s.aru) : t.atRest := by
  obtain ⟨h2, h3, h4⟩ := h
  refine ⟨by unfold State.holderFull; rw [hl]; exact h2, ?_, ?_⟩
  · unfold State.roundsHeld at *
    have ha : t.accepting = s.accepting := by unfold State.accepting; rw [hp]
    have hc : t.canForm = s.canForm := by unfold State.canForm State.slotsInUse; rw [hp, ha, hm]
    rw [hm, hs, ha, hc]
    exact h3
  · unfold State.quietNow at *
    rw [hm, hp, ha]
    exact h4

theorem State.settled {s t : State} (h : s.atRest) (hp : t.pkb = s.pkb) (hl : t.lif = s.lif)
    (hm : t.mgt = s.mgt) (hs : t.sel = s.sel) (ha : t.aru = s.aru) : t.settle = t.withWake false :=
  State.settle_atRest (State.atRest_congr h hp hl hm hs ha)

/-! ### Reception -/

/-- An accepted, well-formed frame is counted and handed on (R29, R31). -/
theorem State.receive_accepted {α : Type} {s : State} {kind : Byte} {f : Frame} {sender : Station} {x : α}
    (read : Frame → Station → Option α) (handOn : State → Station → α → State) (h : s.accepts kind f sender)
    (hx : read f sender = some x) : s.receive kind f read handOn = handOn (s.bump .framesAccepted) sender x := by
  obtain ⟨h1, h2, h3, h4⟩ := h
  unfold State.receive
  rw [if_neg h1, if_neg (by simp [h2])]
  simp only [h3, hx, if_neg h4]

theorem State.accepts_begin {s : State} {kind : Byte} {f : Frame} {sender : Station} (h : s.accepts kind f sender) :
    s.begin.accepts kind f sender := h

end Sys2Proof.Machine
end

