-- ==== Sys2Proof/Tests/Slice0.lean ====
section
/-! SUPPORT. Tests: the well-formedness checks, worked examples of the manual, and, for every statement with hypotheses, states and operands
that meet them. Every expected value is the manual's or worked out from its rules by hand. -/

namespace Sys2Proof.Tests

set_option Elab.async false

open Sys2Proof.Machine

/-! ### Well-formed and ill-formed commands -/

/-- A frame with a body one byte past what its length field can say. -/
def oversized : Frame := ⟨1, 0xFF, 0, List.replicate 65536 0, 0⟩

theorem test_illFormed_selfTest : (Instr.bufferSelfTest [(1048576, 0)] []).wf = false := by decide
theorem test_illFormed_offer : (Instr.offer oversized).wf = false := by decide +kernel
theorem test_illFormed_withdraw : (Instr.withdraw oversized).wf = false := by decide +kernel
theorem test_illFormed_grant : (Instr.grant oversized).wf = false := by decide +kernel
theorem test_illFormed_refuse : (Instr.refuse oversized).wf = false := by decide +kernel
theorem test_illFormed_data : (Instr.data oversized).wf = false := by decide +kernel
theorem test_illFormed_claim : (Instr.claim oversized).wf = false := by decide +kernel
theorem test_illFormed_fetch : (Instr.fetch oversized).wf = false := by decide +kernel
theorem test_illFormed_release : (Instr.release oversized).wf = false := by decide +kernel
theorem test_illFormed_beacon : (Instr.beacon oversized).wf = false := by decide +kernel
theorem test_illFormed_unknownKind_length : (Instr.unknownKindFrame 0x50 oversized).wf = false := by decide +kernel
theorem test_illFormed_unknownKind_kind : (Instr.unknownKindFrame 0x21 ⟨1, 0xFF, 0, [], 0⟩).wf = false := by decide
theorem test_illFormed_unknownCommand_empty : (Instr.unknownCommand []).wf = false := by decide
theorem test_illFormed_unknownCommand_known : (Instr.unknownCommand [0x3F]).wf = false := by decide
theorem test_illFormed_unknownCommand_mode : (Instr.unknownCommand [0x20, 2]).wf = false := by decide
theorem test_wellFormed_unknownCommand : (Instr.unknownCommand [0x20, 4]).wf = true := by decide
theorem test_illFormed_checkError : (Instr.checkErrorFrame (claimFrame 1 ⟨5, 40⟩ 0)).wf = false := by decide +kernel
theorem test_wellFormed_checkError : (Instr.checkErrorFrame [0x41]).wf = true := by decide
theorem test_illFormed_unknownMessage : (Instr.unknownDrainMessage [0x83]).wf = false := by decide
theorem test_wellFormed_unknownMessage : (Instr.unknownDrainMessage [0x83, 0]).wf = true := by decide

/-! ### The manual's numbers -/

/-- R11: the check value of "123456789", and of no bytes. -/
theorem test_crc : crc32 [0x31, 0x32, 0x33, 0x34, 0x35, 0x36, 0x37, 0x38, 0x39] = 0xCBF43926#32 ∧ crc32 [] = 0 := by decide +kernel
/-- R3, R5, R7: their tables. -/
theorem test_sizes : [32, 4096, 16384].map capacity = [65503, 8384511, 33538047] ∧
    [0, 512, 1000000, 3000000, 16777216].map footprintOf = [1, 2, 1955, 5861, 32769] ∧
    [0, 1, 8, 9, 16, 101, 104, 4089, 4096].map mc = [1, 2, 2, 3, 3, 14, 14, 513, 513] := by decide +kernel
/-- Section 1.9: an extent across a segment boundary. -/
theorem test_places : [4000, 4092, 4093, 5954, 32768].map (fun n => (seg n, cellOf n)) =
    [(1, 1954), (1, 2046), (2, 0), (2, 1861), (16, 17)] := by decide +kernel
/-- Section 3.3: three keys. -/
theorem test_keys : [0x0123456789ABCDEF#64, 0x0123456789FF0000#64, 0x0124456789ABCDEF#64].map
    (affinityKey { rotation := 8, keyMask := 0xFFFFFFFF00000000#64 }) =
    [0x2345678900000000#64, 0x2345678900000000#64, 0x2445678900000000#64] := by decide +kernel
/-- Section 1.8: committed extent, promised count, room and demand of the pack before candidate X, and X's and Y's tests. -/
theorem test_room :
    let r : Room := ⟨60000, 100, 1, 1001, 65503, 30⟩
    r.committed = 61015 ∧ r.promised = 0 ∧ r.fits 1955 = true ∧ r.demandWith 1955 = 1 ∧ r.fits 5861 = false := by decide +kernel
/-- Section 1.10: seventeen buffers for the largest file in an empty pack. -/
theorem test_largest : demand 0 (0 + 32769 + mc 1) = 17 := by decide +kernel
/-- R200 and section 11.9: valid and invalid masks. -/
theorem test_masks : [0#64, 0x8000000000000001#64, 0xFFFFFFFF00000000#64, 0xFFFFFFFFFFFFFFFF#64, 0x8000000000000000#64].map maskValid =
    [false, false, true, true, true] := by decide +kernel
/-- R195 and section 11.9: the management address of a part strapped to 13. -/
theorem test_address : State.managementAddress { lif := { station := 13 } } = 0x59 := by decide
/-- Section 11.9, steps 2 and 3: in SELFTEST, STATUS is answered with 30 bytes and IDENTIFY is BUSY. -/
theorem test_selftest_answers :
    ((State.takeStatus {}).mgt.response.map fun r => (r.status, r.data.length)) = some (.done, 30) ∧
    ((State.takeIdentify {}).mgt.response.map fun r => (r.status, r.data.length)) = some (.busy, 0) := by decide +kernel

/-! ### States and operands for the witnesses -/

/-- A file of source 1, with the content check value of "123456789". -/
def file (ticket size : Nat) : FileInfo := ⟨⟨1, BitVec.ofNat 32 ticket⟩, 0xAB, size, 0xCBF43926, 2, []⟩
/-- A broadcast frame of station 1. -/
def fromOne (kind : Byte) (body : List Byte) : Frame := arrivingFrame kind 1 0xFF#8 body
/-- A frame of station 1 addressed to station 3. -/
def toThree (kind : Byte) (body : List Byte) : Frame := arrivingFrame kind 1 0x03#8 body
/-- An OFFER of such a file. -/
def offerOf (ticket size : Nat) : Frame :=
  fromOne 0x21 (le 4 ticket ++ le 8 0xAB ++ le 4 size ++ le 4 0xCBF43926 ++ [2, 0])
/-- A GRANT and a REFUSE of a file of station 1, and a DATA of it. -/
def grantOf (ticket grantee : Nat) : Frame := fromOne 0x23 (le 4 ticket ++ le 1 grantee)
def refuseOf (ticket claimant reason : Nat) : Frame := fromOne 0x24 (le 4 ticket ++ le 1 claimant ++ le 1 reason)
def withdrawOf (ticket : Nat) : Frame := fromOne 0x22 (le 4 ticket)
def dataOf (ticket offset : Nat) (last : Bool) (payload : List Byte) : Frame :=
  toThree 0x25 (le 4 ticket ++ le 4 offset ++ le 2 payload.length ++ [flagByte last] ++ payload)
def beaconOf (phase : Nat) (key : Nat) (fill : Nat) : Frame :=
  fromOne 0x44 (le 4 0 ++ le 4 9 ++ le 1 phase ++ le 8 key ++ le 4 fill ++ le 2 1)

/-- Station 3 at 7.5 s, with a frame in the holder and the drain port DOWN, in a run state. -/
def part (mode : RunState) : State :=
  { lif := ⟨3, some ⟨[], 0⟩⟩, mgt := { run := mode, frozen := true, clock := some 7500 } }
/-- A listed candidate. -/
def listed (ticket : Nat) (contest : Option Contest) : Candidate := ⟨file ticket 9, some 0xAB, some 1000, contest⟩
/-- A claim SENT, with its deadline at 7.5 s. -/
def claimOf (ticket : Nat) (slot : Option SlotId) : Claim := ⟨file ticket 9, 0xAB, slot, .sent 7500⟩
/-- A member of footprint 2 with its head at `headN`. -/
def memberOf (ticket headN : Nat) (state : MemberState) : Member := ⟨file ticket 9, 0xAB, headN, 2, state, false, false, false⟩
/-- A pack from OPEN onward, with members of footprint 2 from ticket 20 up, in these states. -/
def packOf (state : SlotState) (members : List MemberState) : Slot :=
  { state := state, seq := 4, primaryKey := some 0xAB, openTime := some 5, openClock := some 5000, limit := 32,
    e := 2 * members.length, taken := 1, members := members.zipIdx.map fun m => memberOf (20 + m.2) (2 * m.2) m.1,
    ageDeadline := if state = .opened then some 7500 else none, commitPoint := some 0 }
/-- Buffer 0 bound to segment 0 of slot A. -/
def withBuffer (state : BufferState) : Spl := { buffers := (Vector.replicate 64 {}).set 0 ⟨state, some (.a, 0)⟩ }
/-- A fetch of the member with this index in slot A, RECEIVING. -/
def fetchOfIndex (index received : Nat) : Fetch :=
  ⟨⟨.a, index⟩, ⟨1, BitVec.ofNat 32 (20 + index)⟩, 9, 0xCBF43926, 2 * index, .receiving 7500, received, 0xFFFFFFFF⟩
/-- Slot A holds this pack, with its buffer. -/
def holding (mode : RunState) (x : Slot) : State :=
  { part mode with pkb := { slotA := x, nextSeq := 5 }, spl := withBuffer .filling }
/-- An OPEN pack with a DONE, a GRANTED and a FETCHING member, the first fetch slot BUSY with the third. -/
def packing : State :=
  { holding .run (packOf .opened [.done, .granted, .fetching]) with
    fen := { slots := (Vector.replicate 4 none).set 0 (some (fetchOfIndex 2 0)) } }
/-- A part whose next sequence is used up, so that no pack can form. -/
def exhausted : State := { part .run with pkb := { nextSeq := 0xFFFFFFFF } }
/-- A drain current pack in slot A. -/
def currentA : CurrentPack := ⟨.a, 0, 4, 1, 0, false⟩
/-- A CLOSED pack of one member, with its manifest. -/
def closedPack : Slot :=
  { packOf .closed [.done] with
    manifest := some ⟨2, [Member.manifestEntry (memberOf 20 0 .done)], 6, 1⟩, commitPoint := some 1 }
/-- The mover's fields of a pack and a number. -/
def named (epoch seq number : Nat) : List Byte := le 4 epoch ++ le 4 seq ++ le 4 number

/-- The content check value's nine bytes (R11), and nine others. -/
def nine : List Byte := [0x31, 0x32, 0x33, 0x34, 0x35, 0x36, 0x37, 0x38, 0x39]
def nineOthers : List Byte := [0x31, 0x32, 0x33, 0x34, 0x35, 0x36, 0x37, 0x38, 0x38]

/-! ### Single steps -/

/-- The state after a command. -/
def after (c : Instr) (s : State) : State :=
  match exec c s with
  | .next t => t
  | .fault _ => s
  | .refused _ => s

/-- R76, R79, R102: an OFFER in RUN with both slots FREE ends as the opener claim of slot A, which needs one buffer. -/
theorem test_offer_becomes_claim :
    let t := after (.offer (offerOf 77 9)) (part .run)
    t.oft.candidates = [] ∧ t.sel.claims.map (fun c => (c.file.pair, c.slot)) = [(⟨1, 77⟩, some .a)] ∧
    (t.slot .a).state = .forming ∧ t.spl.promised = 1 := by decide +kernel
/-- R105, R107, R125: its GRANT opens the pack with sequence 0, E = 2 and one buffer, and fetch slot 0 takes the member. -/
theorem test_grant_opens :
    let t := after (.grant (grantOf 77 3)) (after (.offer (offerOf 77 9)) (part .run))
    (t.slot .a).state = .opened ∧ (t.slot .a).e = 2 ∧ t.pkb.nextSeq = 1 ∧ t.fen.items = [0] ∧ t.bufferCount .filling = 1 ∧
    t.pvw.items.map (fun x => (x.phase, x.fill, x.members)) = [(.opened, 1, 1)] := by decide +kernel
/-- R130, R131: the last DATA of a member with its head at usable number 4: its first byte lies in cell 6, and the member is DONE. -/
theorem test_data_completes :
    let t := after (.data (dataOf 22 0 true nine)) packing
    ((t.slot .a).members.map Member.state) = [.done, .granted, .done] ∧ t.mem.read (512 * 6) = 0x31 ∧ t.mem.read (512 * 6 + 9) = 0 ∧
    t.count .membersDone = 1 := by decide +kernel
/-- R132, R136: with another check value it is VOID(CHECKSUM) and released. -/
theorem test_data_checksum :
    let t := after (.data (dataOf 22 0 true nineOthers)) packing
    ((t.slot .a).members.map Member.state) = [.done, .granted, .void .checksum] ∧ t.aru.releases = [⟨⟨1, 22⟩, .checksum⟩] := by
  decide +kernel
/-- R67, R69: a larger fill of the same key makes the pack yield; the pack's own fill is 1. -/
theorem test_beacon_yields :
    ((after (.beacon (beaconOf 1 0xAB 2)) packing).slot .a).state = .closing ∧
    ((after (.beacon (beaconOf 1 0xAC 2)) packing).slot .a).state = .opened := by decide +kernel
/-- R34: the 16th refusal drops the frame. -/
theorem test_sixteenth_refusal :
    let t := after .mediumRefusesFrame { part .halted with lif := ⟨3, some ⟨[7], 15⟩⟩ }
    t.lif.holder = none ∧ t.count .transmitDrops = 1 := by decide +kernel
/-- R109: the age deadline closes the pack, whose members are not all settled. -/
theorem test_age_closes :
    let t := after .ageDeadline packing
    (t.slot .a).state = .closing ∧ (t.slot .a).ageDeadline = none ∧ t.count .closesByAge = 1 := by decide +kernel
/-- R117, R205: STORED(END) ends the pack with its record. -/
theorem test_stored_end :
    let s : State :=
      { holding .run { closedPack with state := .ending } with
        drn := { port := .up, current := some { currentA with endSent := true }, window := [.packEnd], deadline := some 9000 } }
    let t := after (.stored (named 0 4 0xFFFFFFFF)) s
    (t.slot .a).state = .free ∧ t.drn.current = none ∧ t.drn.deadline = none ∧
    t.mgt.records.map (fun r => (r.outcome, r.segments, r.members, r.closeTime)) = [(.ended, 1, 1, 6)] := by decide +kernel
/-- R171, R172, R189: FAULT(OFFLINE) takes the port DOWN, aborts the pack and releases its member; the ABANDON waits. -/
theorem test_offline_aborts :
    let s : State :=
      { holding .run (packOf .opened [.granted]) with
        drn := { port := .up, current := some currentA, window := [.segment 0], deadline := some 9000 } }
    let t := after (.fault (le 4 0 ++ le 4 4 ++ [2])) s
    (t.slot .a).state = .free ∧ t.drn.port = .down ∧ t.drn.abandon = some ⟨0, 4, 0⟩ ∧ t.aru.releases = [⟨⟨1, 20⟩, .abort⟩] ∧
    t.bufferCount .free = 64 := by decide +kernel
/-- R204: RESTART is answered DONE, and every command but STATUS is BUSY until the next read. -/
theorem test_restart_busy :
    let t := after (.restart []) packing
    t.mgt.run = .config ∧ (t.mgt.response.map Response.status) = some .done ∧
    ((after (.identify []) t).mgt.response.map Response.status) = some .busy ∧
    ((after (.identify []) (after (.responseRead 2) t)).mgt.response.map Response.status) = some .done := by decide +kernel

/-! ### Witnesses: time, reset and self-test -/

theorem witness_StepIdle :
    (State.reset.pending = [] ∧ State.reset.haltDue = false ∧ State.reset.mgt.clock = none) ∧
    ((part .run).pending = [] ∧ (part .run).haltDue = false ∧ (part .run).mgt.clock = some 7500) ∧
    (let s : State := { part .run with spl := { buffers := Vector.ofFn fun i => if i.val < 41 then ⟨.retired, none⟩ else {} } }
     s.pending = [] ∧ s.haltDue = true) ∧
    (let s : State := { part .run with drn := { port := .up, abandon := some ⟨0, 4, 2⟩ } }
     s.pending = [] ∧ s.haltDue = false ∧ s.begin.nextIssue = some s.begin.issueAbandon) ∧
    State.reset.begin.nextIssue = none ∧ (part .run).begin.nextIssue = none := by
  refine ⟨?_, ?_, ?_, ⟨rfl, ?_, rfl⟩, rfl, rfl⟩ <;> decide +kernel
theorem witness_BufferSelfTest :
    (State.reset.mgt.run = .selftest ∧ State.reset.spl.tested = (0 : Fin 64).val ∧ State.reset.buffer 0 = ⟨.free, none⟩ ∧
      deviates 0x55#8 [(1048575, 0x54)] ∧ ¬ deviates 0x55#8 [] ∧ ¬ deviates 0xAA#8 [(1048576, 0)]) ∧
    (let s : State := { spl := { tested := 63 } }
     s.mgt.run = .selftest ∧ s.spl.tested = (63 : Fin 64).val ∧ s.buffer 63 = ⟨.free, none⟩ ∧ deviates 0xAA#8 [(0, 0x55)]) := by
  unfold deviates
  decide +kernel

/-! ### Witnesses: reception -/

theorem witness_CheckErrorFrame :
    (part .run).mgt.run ≠ .selftest ∧ (List.replicate 8 (0 : Byte)).length < 9 ∧ 4209 < (List.replicate 4210 (0 : Byte)).length ∧
    (let bad : List Byte := [0x42, 1, 3, 0, 0, 0, 0, 0, 0]
     (crc32 (bad.take (bad.length - 4))).toNat ≠ ofLe (bad.drop (bad.length - 4))) ∧
    (let good := fetchFrame 1 ⟨3, 70⟩
     9 ≤ good.length ∧ good.length ≤ 4209 ∧
       (crc32 (good.take (good.length - 4))).toNat = ofLe (good.drop (good.length - 4))) := by
  decide +kernel
theorem witness_FrameJudged :
    (part .selftest).mgt.run = .selftest ∧
    ((part .config).mgt.run ≠ .selftest ∧ passesCheck 0x22 ⟨1, 0xFF, 4, [0, 0, 0, 0], 0⟩ = false) ∧
    (passesCheck 0x22 (fromOne 0x22 [0, 0, 0]) = true ∧ ¬ frameWellFormed 0x22 (fromOne 0x22 [0, 0, 0])) ∧
    (passesCheck 0x50 (fromOne 0x50 []) = true ∧ ¬ frameWellFormed 0x50 (fromOne 0x50 [])) ∧
    (let f := arrivingFrame 0x22#8 3 0xFF#8 [1, 0, 0, 0]
     passesCheck 0x22 f = true ∧ frameWellFormed 0x22 f ∧ f.sender.toNat = (part .config).lif.station.val) := by
  unfold frameWellFormed
  refine ⟨?_, ?_, ⟨?_, ?_⟩, ⟨?_, ?_⟩, ?_, ?_, ?_⟩ <;> decide +kernel
theorem witness_PassedOver :
    ((part .run).accepts 0x42#8 (toThree 0x42 [1, 0, 0, 0]) 1 ∧ frameWellFormed 0x42 (toThree 0x42 [1, 0, 0, 0])) ∧
    ((part .run).accepts 0x43#8 (toThree 0x43 [1, 0, 0, 0, 6]) 1 ∧ frameWellFormed 0x43 (toThree 0x43 [1, 0, 0, 0, 6])) ∧
    (let f := arrivingFrame 0x25#8 1 0x1F#8 [1, 0, 0, 0, 0, 0, 0, 0, 1, 0, 1, 7]
     (part .run).accepts 0x25#8 f 1 ∧ frameWellFormed 0x25 f ∧ f.target.toNat ≠ (part .run).lif.station.val) := by
  unfold State.accepts frameWellFormed
  refine ⟨⟨?_, ?_⟩, ⟨?_, ?_⟩, ?_, ?_, ?_⟩ <;> decide +kernel

/-! ### Witnesses: the candidate list -/

theorem witness_OfferArrives_held :
    let s : State := { part .quiet with sel := { claims := [claimOf 5 none] } }
    s.accepts 0x21#8 (offerOf 5 9) 1 ∧ readOffer (offerOf 5 9) 1 = some (file 5 9) ∧ s.atRest ∧ s.heldHere ⟨1, 5⟩ = true := by
  unfold State.atRest State.holderFull State.roundsHeld State.accepts
  decide +kernel
theorem witness_OfferArrives_oversize :
    (part .quiet).accepts 0x21#8 (offerOf 5 16777217) 1 ∧ readOffer (offerOf 5 16777217) 1 = some (file 5 16777217) ∧
    (part .quiet).atRest ∧ (part .quiet).heldHere ⟨1, 5⟩ = false ∧ 16777216 < 16777217 := by
  unfold State.atRest State.holderFull State.roundsHeld State.accepts
  decide +kernel
theorem witness_OfferArrives_listed :
    let s : State := { part .quiet with oft := ⟨[listed 5 none]⟩ }
    s.accepts 0x21#8 (offerOf 5 16777216) 1 ∧ readOffer (offerOf 5 16777216) 1 = some (file 5 16777216) ∧ s.atRest ∧
    s.heldHere ⟨1, 5⟩ = false ∧ ∃ c ∈ s.oft.candidates, c.file.pair = ⟨1, 5⟩ := by
  unfold State.atRest State.holderFull State.roundsHeld State.accepts
  decide +kernel
theorem witness_OfferArrives_room :
    let s : State := { part .quiet with oft := ⟨List.replicate 1023 (listed 4 none)⟩ }
    s.accepts 0x21#8 (offerOf 5 0) 1 ∧ readOffer (offerOf 5 0) 1 = some (file 5 0) ∧ s.atRest ∧ s.heldHere ⟨1, 5⟩ = false ∧
    (¬ ∃ c ∈ s.oft.candidates, c.file.pair = ⟨1, 5⟩) ∧ s.oft.candidates.length < 1024 := by
  unfold State.atRest State.holderFull State.roundsHeld State.accepts
  decide +kernel
theorem witness_OfferArrives_full :
    let s : State := { part .quiet with oft := ⟨List.replicate 1024 (listed 4 none)⟩ }
    s.accepts 0x21#8 (offerOf 5 9) 1 ∧ readOffer (offerOf 5 9) 1 = some (file 5 9) ∧ s.atRest ∧ s.heldHere ⟨1, 5⟩ = false ∧
    (¬ ∃ c ∈ s.oft.candidates, c.file.pair = ⟨1, 5⟩) ∧ s.oft.candidates.length = 1024 := by
  unfold State.atRest State.holderFull State.roundsHeld State.accepts
  decide +kernel
theorem witness_AffinityKeyBits : ({ rotation := 63 } : ConfigRecord).rotation ≤ 63 ∧ 63 < 64 := by
  decide +kernel
theorem witness_ContestMarks :
    let f := fromOne 0x41 [2, 5, 0, 0, 0, 9, 0, 0, 0]
    ((part .run).accepts 0x41#8 f 1 ∧ readClaim f 1 = some ⟨2, 5⟩) ∧
    (let s : State := { part .config with mgt := { run := .config } }
     s.accepts 0x41#8 f 1 ∧ s.mgt.clock = none) := by
  unfold State.accepts
  decide +kernel
theorem witness_ContestMarks_expiry :
    let s (e : Nat) : State := { part .quiet with oft := ⟨[listed 5 (some (.endsAt e))]⟩ }
    ((s 7500).candidate? ⟨1, 5⟩ = some (listed 5 (some (.endsAt 7500))) ∧ (s 7500).mgt.clock = some 7500 ∧ (s 7500).atRest ∧ 7500 ≤ 7500) ∧
    ((s 7501).candidate? ⟨1, 5⟩ = some (listed 5 (some (.endsAt 7501))) ∧ (s 7501).mgt.clock = some 7500 ∧ (s 7501).atRest ∧ 7500 < 7501) := by
  unfold State.atRest State.holderFull State.roundsHeld
  decide +kernel
theorem witness_CandidateRemoved :
    let s : State := { part .quiet with oft := ⟨[listed 5 none]⟩ }
    (s.atRest ∧ s.claim? ⟨1, 5⟩ = none ∧ s.liveMember ⟨1, 5⟩ = none ∧ (7 : Station) ≠ s.lif.station ∧
      s.claim? ⟨1, 6⟩ = none ∧ s.liveMember ⟨1, 6⟩ = none) ∧
    (s.accepts 0x22#8 (withdrawOf 5) 1 ∧ readWithdraw (withdrawOf 5) 1 = some 5 ∧ ∃ c ∈ s.oft.candidates, c.file.pair = ⟨1, 5⟩) ∧
    (readWithdraw (withdrawOf 6) 1 = some 6 ∧ ¬ ∃ c ∈ s.oft.candidates, c.file.pair = ⟨1, 6⟩) ∧
    (s.accepts 0x23#8 (grantOf 5 7) 1 ∧ readGrant (grantOf 5 7) 1 = some (5, 7)) ∧
    (s.accepts 0x24#8 (refuseOf 5 7 1) 1 ∧ readRefuse (refuseOf 5 7 1) 1 = some (5, 7, .taken)) ∧
    (s.accepts 0x24#8 (refuseOf 5 7 2) 1 ∧ readRefuse (refuseOf 5 7 2) 1 = some (5, 7, .withdrawn)) ∧
    (s.accepts 0x24#8 (refuseOf 5 7 3) 1 ∧ readRefuse (refuseOf 5 7 3) 1 = some (5, 7, .unknown)) := by
  unfold State.accepts State.atRest State.holderFull State.roundsHeld
  intro s
  refine ⟨?_, ?_, ?_, ?_, ?_, ?_, ?_⟩ <;> decide +kernel

/-! ### Witnesses: claims -/

/-- Slot A FORMING with the claim of ticket 30 as its opener. -/
def formingPart (mode : RunState) : State :=
  { part mode with
    pkb := { slotA := { state := .forming, seq := 5, tentativeKey := some 0xAB, limit := 32, commitPoint := some 0 }, nextSeq := 5 }
    sel := { claims := [claimOf 30 (some .a)] } }
/-- Every fetch slot BUSY. -/
def allBusy : Fen := { slots := Vector.replicate 4 (some (fetchOfIndex 2 0)) }
/-- A configuration with this close margin. -/
def withMargin (s : State) (margin : Nat) : State := { s with mgt := { s.mgt with config := { closeMargin := margin } } }

/-- `packing` with a claim of ticket 30 bound to its pack and all four fetch slots BUSY. -/
def claiming : State :=
  { packing with sel := { claims := [claimOf 30 (some .a), claimOf 31 none] }
                 fen := allBusy }

theorem witness_GrantPlaces :
    let s := claiming
    let x := s.slot .a
    s.accepts 0x23#8 (grantOf 30 3) 1 ∧ readGrant (grantOf 30 3) 1 = some (30, s.lif.station) ∧
    s.claim? ⟨1, 30⟩ = some (claimOf 30 (some .a)) ∧ (s.sel.claims.map fun d => d.file.pair).Nodup ∧ x.state = .opened ∧
    s.holderFull ∧ s.noneToAdmit ∧ s.freeFetchSlot = none ∧
    (s.roomOf .a).committed + s.mgt.config.closeMargin ≤ (s.roomOf .a).u ∧ x.members.length + 1 < 4096 ∧
    Slot.segmentOpen { x with e := x.e + footprintOf 9 } := by
  unfold State.holderFull State.noneToAdmit State.accepts Slot.segmentOpen
  decide +kernel
theorem witness_GrantOpens :
    let s := formingPart .run
    s.accepts 0x23#8 (grantOf 30 3) 1 ∧ readGrant (grantOf 30 3) 1 = some (30, s.lif.station) ∧
    s.claim? ⟨1, 30⟩ = some (claimOf 30 (some .a)) ∧ (s.slot .a).state = .forming ∧ (s.slot .a).members = [] ∧ (s.slot .a).e = 0 ∧
    (s.slot .a).commitPoint = some 0 ∧ (s.slot .a).manifest = none ∧ (s.slot SlotId.a.other).state.accepting = false ∧
    s.mgt.run = .run ∧ s.holderFull ∧ s.oft.candidates = [] ∧ 0 < 9 ∧ footprintOf 9 < 2046 ∧ s.fen.queue = [] ∧
    (∀ i : Fin 4, s.fen.slots[i] = none) ∧ 1 ≤ s.mgt.config.fetchSlots ∧ s.pkb.nextSeq ≠ BitVec.allOnes 32 ∧
    (∀ y ∈ s.pvw.table, y.key ≠ 0xAB) ∧
    footprintOf 9 + ((s.sel.claims.filter fun d => d.slot = some .a).map fun d => footprintOf d.file.size).sum +
      mc (1 + (s.sel.claims.filter fun d => d.slot = some .a).length) + s.mgt.config.closeMargin ≤ capacity (s.slot .a).limit := by
  unfold State.holderFull State.accepts
  decide +kernel
/-- R107, R68: an opening in QUIESCING closes for QUIESCE and not for the yield a live entry calls for; in RUN the entry makes it yield. -/
theorem test_opening_closes :
    let s (mode : RunState) : State := { formingPart mode with pvw := { table := [⟨1, .opened, 0xAB, 2, some 7000⟩] } }
    let t := after (.grant (grantOf 30 3)) (s .quiescing)
    let u := after (.grant (grantOf 30 3)) (s .run)
    ((t.slot .a).state, t.count .closesByQuiesce, t.count .yields) = (.closing, 1, 0) ∧
    ((u.slot .a).state, u.count .closesByYield, u.count .yields) = (.closing, 1, 1) := by decide +kernel
/-- The conditions shared by the clauses of GrantCloses. -/
def grantCloses (s : State) : Prop :=
  s.accepts 0x23#8 (grantOf 30 3) 1 ∧ readGrant (grantOf 30 3) 1 = some (30, s.lif.station) ∧
  s.claim? ⟨1, 30⟩ = some (claimOf 30 (some .a)) ∧ (s.slot SlotId.a.other).state.accepting = false ∧ s.holderFull ∧ s.noneToAdmit ∧
  s.freeFetchSlot = none ∧ Slot.segmentOpen { s.slot .a with e := (s.slot .a).e + footprintOf 9 }
theorem witness_GrantCloses_open :
    (let s := withMargin claiming 65535
     grantCloses s ∧ s.mgt.run = .run ∧ (s.slot .a).state = .opened ∧ (s.slot .a).members.length + 1 < 4096 ∧
       capacity (s.slot .a).limit < 6 + 2 + 0 + mc (3 + 1 + 0) + s.mgt.config.closeMargin) ∧
    (let s : State := { claiming with pkb := { slotA := { packOf .opened [] with
       members := List.replicate 4095 (memberOf 20 0 .granted), e := 2 } } }
     grantCloses s ∧ s.mgt.run = .run ∧ (s.slot .a).state = .opened ∧ (s.slot .a).members.length + 1 = 4096 ∧
       2 + 2 + 0 + mc (4095 + 1 + 0) + s.mgt.config.closeMargin ≤ capacity (s.slot .a).limit) := by
  unfold grantCloses State.holderFull State.noneToAdmit State.accepts Slot.segmentOpen
  decide +kernel
theorem witness_GrantCloses_forming :
    (let s : State := { formingPart .quiescing with fen := allBusy }
     grantCloses s ∧ s.mgt.run = .quiescing ∧ (s.slot .a).state = .forming ∧ s.pkb.nextSeq ≠ BitVec.allOnes 32) ∧
    (let y : PeerEntry := ⟨1, .opened, 0xAB, 1, some 7000⟩
     let s : State := { formingPart .run with fen := allBusy, pvw := { table := [y] } }
     grantCloses s ∧ s.mgt.run = .run ∧ (s.slot .a).state = .forming ∧ s.pkb.nextSeq ≠ BitVec.allOnes 32 ∧ s.mgt.clock = some 7500 ∧
       y ∈ s.pvw.table ∧ 7500 - 7000 < 3 * s.mgt.config.beaconSecs * 1000 ∧ y.key = (s.slot .a).tentativeKey.getD 0xAB ∧
       y.fill = fillOf (0 + 2) ∧ y.station.val < s.lif.station.val) := by
  unfold grantCloses State.holderFull State.noneToAdmit State.accepts Slot.segmentOpen
  decide +kernel
theorem witness_GrantAnswered :
    let s := claiming
    (s.accepts 0x23#8 (grantOf 31 3) 1 ∧ readGrant (grantOf 31 3) 1 = some (31, s.lif.station) ∧ s.holderFull ∧ s.noneToAdmit ∧
      s.quietNow = false ∧ s.claim? ⟨1, 31⟩ = some (claimOf 31 none)) ∧
    (readGrant (grantOf 20 3) 1 = some (20, s.lif.station) ∧ s.claim? ⟨1, 20⟩ = none ∧ s.isMember ⟨1, 20⟩ = true) ∧
    (readGrant (grantOf 50 3) 1 = some (50, s.lif.station) ∧ s.claim? ⟨1, 50⟩ = none ∧ s.isMember ⟨1, 50⟩ = false) := by
  unfold State.holderFull State.noneToAdmit State.accepts
  decide +kernel
theorem witness_ClaimEnds :
    let s := claiming
    (s.claim? ⟨1, 30⟩ = some (claimOf 30 (some .a)) ∧ (s.slot .a).state = .opened ∧ s.candidate? ⟨1, 30⟩ = none ∧
      s.liveMember ⟨1, 30⟩ = none ∧ s.claim? ⟨1, 31⟩ = some (claimOf 31 none) ∧ s.candidate? ⟨1, 31⟩ = none ∧
      s.liveMember ⟨1, 31⟩ = none ∧ s.holderFull ∧ s.noneToAdmit ∧ s.quietNow = false) ∧
    (s.accepts 0x23#8 (grantOf 30 7) 1 ∧ readGrant (grantOf 30 7) 1 = some (30, 7) ∧ (7 : Station) ≠ s.lif.station) ∧
    (s.accepts 0x24#8 (refuseOf 30 3 3) 1 ∧ readRefuse (refuseOf 30 3 3) 1 = some (30, s.lif.station, .unknown)) ∧
    (s.accepts 0x22#8 (withdrawOf 30) 1 ∧ readWithdraw (withdrawOf 30) 1 = some 30) ∧
    ((claimOf 30 (some .a)).phase = .sent 7500 ∧ s.mgt.clock = some 7500 ∧ 7500 ≤ 7500) := by
  unfold State.holderFull State.noneToAdmit State.accepts
  decide +kernel
theorem witness_ClaimEnds_forming :
    let s := formingPart .run
    s.sel.claims = [claimOf 30 (some .a)] ∧ (claimOf 30 (some .a)).phase = .sent 7500 ∧ s.mgt.clock = some 7500 ∧ 7500 ≤ 7500 ∧
    (s.slot .a).state = .forming ∧ (s.slot .a).members = [] ∧ (s.slot .a).manifest = none ∧
    (s.slot SlotId.a.other).state.accepting = false ∧ s.holderFull ∧ s.noneToAdmit ∧ s.mgt.run ≠ .quiescing := by
  unfold State.holderFull State.noneToAdmit
  decide +kernel
theorem witness_StrayAnswers :
    let s := packing
    (s.holderFull ∧ s.quietNow = false) ∧
    (s.accepts 0x24#8 (refuseOf 50 3 1) 1 ∧ readRefuse (refuseOf 50 3 1) 1 = some (50, s.lif.station, .taken) ∧ s.claim? ⟨1, 50⟩ = none) ∧
    (s.accepts 0x25#8 (dataOf 50 0 false [7]) 1 ∧
      readData (dataOf 50 0 false [7]) 1 = some (s.lif.station, ⟨50, 0, false, [7]⟩) ∧
      ∀ i : Fin 4, ∀ x ∈ s.fen.slots[i], x.pair ≠ ⟨1, 50⟩) := by
  unfold State.holderFull State.accepts
  decide +kernel
theorem witness_OfferAdmitted :
    let s := part .run
    s.accepts 0x21#8 (offerOf 5 16777216) 1 ∧ readOffer (offerOf 5 16777216) 1 = some (file 5 16777216) ∧ s.holderFull ∧
    s.mgt.run = .run ∧ s.mgt.frozen = true ∧ s.mgt.clock = some 7500 ∧ s.oft.candidates = [] ∧ s.sel.claims = [] ∧
    1 ≤ s.mgt.config.pendingMax ∧ s.accepting = none ∧ s.canForm = true ∧ s.liveMember ⟨1, 5⟩ = none ∧
    32 ≤ s.mgt.config.packLimit ∧ (∀ y ∈ s.pvw.table, y.key ≠ affinityKey s.mgt.config 0xAB) ∧
    seg (footprintOf 16777216 + 1) + 1 ≤ s.bufferCount .free ∧ s.mgt.config.admitFloor ≤ 320 + 96 * min 2 3 := by
  unfold State.holderFull State.accepts
  decide +kernel
/-- R76: the rows of the table of affinity terms, and a contested candidate. -/
theorem test_affinity :
    packing.eligible (listed 5 none) = some 512 ∧ (part .run).eligible (listed 5 none) = some 320 ∧
    packing.eligible { listed 5 none with key := some 1 } = none ∧
    ({ packing with mgt := { packing.mgt with config := { strayAge := 6 } } } : State).eligible { listed 5 none with key := some 1 } = some 128 ∧
    packing.eligible (listed 5 (some .pendingEnd)) = none ∧
    ({ part .run with pvw := { table := [⟨9, .closing, 0xAB, 1, some 7000⟩] } } : State).eligible (listed 5 none) = none := by
  decide +kernel
theorem witness_Eligibility :
    (listed 5 none).key = some 0xAB ∧ packing.mgt.clock = some 7500 ∧ (listed 5 none).firstHeard = some 1000 := by
  decide +kernel
theorem witness_RoundTakesBest :
    (packing.best [listed 5 none, listed 6 none] = some (listed 5 none, 707)) ∧
    packing.best [listed 5 (some .pendingEnd)] = none := by
  decide +kernel
/-- A round is run, and its best candidate is the listed one. -/
def roundOver (s : State) (n : Nat) : Prop :=
  s.mgt.run = .run ∧ (∀ d ∈ s.sel.claims, d.phase ≠ .waiting) ∧ s.sel.claims.length < s.mgt.config.pendingMax ∧
  s.best s.oft.candidates = some (listed 5 none, n)
theorem witness_RoundTakesBest_admits :
    let oft : Oft := ⟨[listed 5 none]⟩
    (let s : State := { packing with oft := oft }
     roundOver s 707 ∧ s.accepting = some .a ∧ (s.slot .a).state = .opened ∧ s.mgt.config.admitFloor ≤ 707 ∧
       6 + 2 + mc (3 + 1) + s.mgt.config.closeMargin ≤ capacity (s.slot .a).limit) ∧
    (let s : State := withMargin { packing with oft := oft } 65535
     roundOver s 707 ∧ s.accepting = some .a ∧ (s.slot .a).state = .opened ∧
       capacity (s.slot .a).limit < 6 + 2 + mc (3 + 1) + s.mgt.config.closeMargin) ∧
    (let s : State := { formingPart .run with oft := oft }
     roundOver s 707 ∧ s.accepting = some .a ∧ (s.slot .a).state = .forming) ∧
    (let s : State := { part .run with oft := oft }
     roundOver s 515 ∧ s.accepting = none ∧ s.canForm = true ∧ s.mgt.config.admitFloor ≤ 515) ∧
    (let s : State := { part .run with oft := oft, mgt := { (part .run).mgt with config := { admitFloor := 516 } } }
     roundOver s 515 ∧ 515 < s.mgt.config.admitFloor) := by
  unfold roundOver
  decide +kernel
theorem witness_ScoreSum : packing.score? (listed 5 none) = some 707 := by
  decide +kernel

/-! ### Witnesses: the peer view -/

theorem witness_BeaconWrites :
    (part .quiet).accepts 0x44#8 (beaconOf 1 0xAB 6) 1 ∧ readBeacon (beaconOf 1 0xAB 6) 1 = some (.opened, 0xAB, 6) ∧ (part .quiet).atRest ∧
    (part .quiet).accepting = none := by
  unfold State.atRest State.holderFull State.roundsHeld State.accepts
  decide +kernel
theorem witness_BeaconWrites_ownKey :
    let s : State := { packing with sel := { claims := [⟨file 9 9, 0xAB, some .a, .waiting⟩] } }
    let f := arrivingFrame 0x44#8 9 0xFF#8 (le 4 0 ++ le 4 9 ++ le 1 1 ++ le 8 0xAB ++ le 4 1 ++ le 2 1)
    s.atRest ∧ s.accepting = some .a ∧ (s.slot .a).state = .opened ∧ (s.slot .a).primaryKey = some 0xAB ∧
    (s.accepts 0x44#8 f 9 ∧ readBeacon f 9 = some (.opened, 0xAB, 1) ∧
      ¬ (fillOf (s.slot .a).e < 1 ∨ (fillOf (s.slot .a).e = 1 ∧ (9 : Station).val < s.lif.station.val))) ∧
    (s.accepts 0x44#8 (beaconOf 1 0xAB 0) 1 ∧ readBeacon (beaconOf 1 0xAB 0) 1 = some (.opened, 0xAB, 0) ∧
      ¬ (fillOf (s.slot .a).e < 0 ∨ (fillOf (s.slot .a).e = 0 ∧ (1 : Station).val < s.lif.station.val))) := by
  unfold State.atRest State.holderFull State.roundsHeld State.accepts
  decide +kernel
theorem witness_BeaconYields :
    let s := packing
    (s.accepts 0x44#8 (beaconOf 1 0xAB 2) 1 ∧ readBeacon (beaconOf 1 0xAB 2) 1 = some (.opened, 0xAB, 2) ∧ s.holderFull ∧
      s.accepting = some .a ∧ (s.slot .a).state = .opened ∧ (s.slot .a).primaryKey = some 0xAB ∧ s.mgt.run = .run ∧
      s.closeReady .a = false ∧ fillOf (s.slot .a).e < 2) ∧
    (readBeacon (beaconOf 1 0xAB 1) 1 = some (.opened, 0xAB, 1) ∧ fillOf (s.slot .a).e = 1 ∧ (1 : Station).val < s.lif.station.val) := by
  unfold State.holderFull State.accepts
  decide +kernel
theorem witness_ClockTimers :
    let s (t e : Nat) : State :=
      { exhausted with mgt := { run := .run, frozen := true, clock := some t }, pvw := { sweepAt := some e }, sel := { sweepAt := some e } }
    ((s 8000 8000).mgt.clock = some 8000 ∧ (s 8000 8000).holderFull ∧ (s 8000 8000).roundsHeld ∧ (s 8000 8000).quietNow = false ∧ (s 8000 8000).pvw.sweepAt = some 8000 ∧
      (s 8000 8000).sel.sweepAt = some 8000 ∧ (s 8000 8000).mgt.run = .run) ∧
    ((s 7999 8000).mgt.clock = some 7999 ∧ (s 7999 8000).holderFull ∧ (s 7999 8000).roundsHeld ∧ (s 7999 8000).quietNow = false ∧ (s 7999 8000).pvw.sweepAt = some 8000 ∧
      (s 7999 8000).sel.sweepAt = some 8000 ∧ 7999 < 8000) := by
  unfold State.holderFull State.roundsHeld
  decide +kernel
theorem witness_ClockTimers_beacon :
    let s (e : Nat) : State := { packing with pvw := { timer := some e } }
    ((s 7500).mgt.clock = some 7500 ∧ (s 7500).pvw.timer = some 7500 ∧ (s 7500).holderFull ∧ (s 7500).mgt.run = .run ∧
      (s 7500).accepting = some .a ∧ ((s 7500).slot .a).state = .opened) ∧ (s 7501).pvw.timer = some 7501 := by
  unfold State.holderFull
  decide +kernel

/-! ### Witnesses: members and their data -/

theorem witness_WithdrawMember :
    let s := packing
    let closed := holding .run (packOf .closed [.done])
    let ending := holding .run (packOf .ending [.done])
    (s.holderFull ∧ (s.slot .a).state = .opened ∧ (s.slot .a).segmentOpen ∧ s.fen.queue = []) ∧
    (s.accepts 0x22#8 (withdrawOf 20) 1 ∧ readWithdraw (withdrawOf 20) 1 = some 20 ∧ s.candidate? ⟨1, 20⟩ = none ∧ s.claim? ⟨1, 20⟩ = none ∧
      s.liveMember ⟨1, 20⟩ = some ⟨.a, 0⟩ ∧ s.member? ⟨.a, 0⟩ = some (memberOf 20 0 .done)) ∧
    (readWithdraw (withdrawOf 21) 1 = some 21 ∧ s.liveMember ⟨1, 21⟩ = some ⟨.a, 1⟩ ∧ s.member? ⟨.a, 1⟩ = some (memberOf 21 2 .granted)) ∧
    (readWithdraw (withdrawOf 22) 1 = some 22 ∧ s.liveMember ⟨1, 22⟩ = some ⟨.a, 2⟩ ∧
      s.member? ⟨.a, 2⟩ = some (memberOf 22 4 .fetching) ∧ s.fetchOf ⟨.a, 2⟩ = some 0) ∧
    (closed.holderFull ∧ closed.liveMember ⟨1, 20⟩ = some ⟨.a, 0⟩ ∧ closed.member? ⟨.a, 0⟩ = some (memberOf 20 0 .done)) ∧
    (ending.holderFull ∧ ending.liveMember ⟨1, 20⟩ = some ⟨.a, 0⟩ ∧ ending.member? ⟨.a, 0⟩ = some (memberOf 20 0 .done)) := by
  unfold State.holderFull State.accepts Slot.segmentOpen
  decide +kernel
theorem witness_DataAccepted :
    let s := packing
    s.accepts 0x25#8 (dataOf 22 0 false [0x31, 0x32]) 1 ∧
    readData (dataOf 22 0 false [0x31, 0x32]) 1 = some (s.lif.station, ⟨22, 0, false, [0x31, 0x32]⟩) ∧ s.holderFull ∧ s.quietNow = false ∧
    s.receivingSlot ⟨1, 22⟩ = some (0, fetchOfIndex 2 0) ∧ 0 + [(0x31 : Byte), 0x32].length ≤ 9 ∧
    s.fileByteAddr .a 4 (0 + 1) = some (512 * 6 + 1) := by
  unfold State.holderFull State.accepts
  decide +kernel
theorem witness_DataAccepted_address : packing.bufferOf .a (physicalCell (4 + 1 + 511 / 512) / 2048) = some 0 := by
  decide +kernel
theorem witness_DataCompletes :
    let s := packing
    (s.accepts 0x25#8 (dataOf 22 0 true nine) 1 ∧ readData (dataOf 22 0 true nine) 1 = some (s.lif.station, ⟨22, 0, true, nine⟩) ∧
      s.holderFull ∧ s.receivingSlot ⟨1, 22⟩ = some (0, fetchOfIndex 2 0) ∧ 0 + nine.length = 9 ∧ (s.slot .a).state = .opened ∧
      (s.slot .a).segmentOpen ∧ s.fen.queue = [] ∧ s.aru.releases.length < 8200 ∧ ~~~ (crcRun 0xFFFFFFFF#32 nine) = 0xCBF43926#32) ∧
    (s.accepts 0x25#8 (dataOf 22 0 true nineOthers) 1 ∧
      readData (dataOf 22 0 true nineOthers) 1 = some (s.lif.station, ⟨22, 0, true, nineOthers⟩) ∧
      ~~~ (crcRun 0xFFFFFFFF#32 nineOthers) ≠ 0xCBF43926#32) := by
  unfold State.holderFull State.accepts Slot.segmentOpen
  decide +kernel
theorem witness_FetchVoided :
    let s := packing
    (s.holderFull ∧ (s.slot .a).state = .opened ∧ (s.slot .a).segmentOpen ∧ s.fen.queue = [] ∧ s.aru.releases.length < 8200 ∧
      s.receivingSlot ⟨1, 22⟩ = some (0, fetchOfIndex 2 0)) ∧
    (s.accepts 0x25#8 (dataOf 22 1 false [7]) 1 ∧ readData (dataOf 22 1 false [7]) 1 = some (s.lif.station, ⟨22, 1, false, [7]⟩) ∧ 1 ≠ 0) ∧
    (s.accepts 0x25#8 (dataOf 22 0 false (nine ++ [7])) 1 ∧
      readData (dataOf 22 0 false (nine ++ [7])) 1 = some (s.lif.station, ⟨22, 0, false, nine ++ [7]⟩) ∧ 9 < 0 + (nine ++ [7]).length) ∧
    (s.accepts 0x25#8 (dataOf 22 0 true (nine.take 8)) 1 ∧
      readData (dataOf 22 0 true (nine.take 8)) 1 = some (s.lif.station, ⟨22, 0, true, nine.take 8⟩) ∧ 0 + (nine.take 8).length < 9) ∧
    (s.fen.slots[(0 : Fin 4)] = some (fetchOfIndex 2 0) ∧ (fetchOfIndex 2 0).phase = .receiving 7500 ∧ s.mgt.clock = some 7500 ∧
      7500 ≤ 7500) := by
  unfold State.holderFull State.accepts Slot.segmentOpen
  decide +kernel

/-! ### Witnesses: the transmit holder (section 2.7's order of preference) -/

/-- R65: an item of the accepting pack made while the beacon timer runs stops it, and its taking starts it again. -/
theorem test_item_stops_timer :
    let s : State := { packing with pvw := { timer := some 9000 } }
    let t := after (.closeNow .short []) s
    t.pvw.items.map BeaconItem.phase = [.closing] ∧ t.pvw.timer = none ∧
    (after .mediumTakesFrame t).pvw.items = [] ∧ (after .mediumTakesFrame t).pvw.timer = some 12500 := by decide +kernel
/-- R65: a close and the timer's expiry fall together, with a GRANT between them: the expiry, taken last, remakes the item from the slot as it is then. -/
theorem test_expiry_remakes :
    let s : State := { packing with pvw := { timer := some 7500 }, sel := { claims := [claimOf 30 (some .a)] } }
    let t := after (.grant (grantOf 30 3)) (after (.closeNow .short []) s)
    let u := after .beaconTimer t
    t.pvw.items.map (fun x => (x.phase, x.members)) = [(.closing, 3)] ∧
    u.pvw.items.map (fun x => (x.phase, x.members)) = [(.closing, 4)] ∧ u.pvw.timer = none := by decide +kernel
/-- The conditions shared by the clauses of HolderEmptied, for a frame the medium takes and for one at its 16th refusal. -/
def holderEmptied (s : State) (refusals : Nat) : Prop :=
  s.lif.holder = some ⟨[], refusals⟩ ∧ s.noneToAdmit ∧ s.mgt.run ≠ .selftest
/-- A state with a frame at its 15th refusal in the holder. -/
def refusedOften (s : State) : State := { s with lif := ⟨3, some ⟨[], 15⟩⟩ }

theorem witness_HolderEmptied :
    let s := part .run
    let release : Release := ⟨⟨4, 70⟩, .abort⟩
    holderEmptied s 0 ∧ holderEmptied (refusedOften s) 15 ∧
    (let u : State := { part .quiescing with aru := { releases := [release, release] } }
     holderEmptied u 0 ∧ u.aru.releases = release :: [release] ∧ [release] ≠ []) ∧
    (let u : State := { holding .quiescing (packOf .closing [.granted]) with aru := { releases := [release] } }
     holderEmptied u 0 ∧ holderEmptied (refusedOften u) 15 ∧ u.aru.releases = release :: [] ∧ (u.slot .a).state ≠ .free) := by
  unfold holderEmptied State.noneToAdmit
  decide +kernel
theorem witness_HolderEmptied_others :
    let s := part .run
    let claim : Claim := ⟨file 9 9, 0xAB, some .a, .waiting⟩
    (let u : State := { s with fen := { slots := (Vector.replicate 4 none).set 3 (some (fetchOfIndex 0 0)), items := [3] } }
     holderEmptied u 0 ∧ u.aru.releases = [] ∧ u.fen.items = 3 :: [] ∧ u.fen.slots[(3 : Fin 4)] = some (fetchOfIndex 0 0)) ∧
    (let u : State := { formingPart .quiescing with sel := { claims := [claim] } }
     holderEmptied u 0 ∧ u.aru.releases = [] ∧ u.fen.items = [] ∧ u.sel.claims.find? Claim.isWaiting = some claim ∧ claim.slot = some .a ∧
       (u.slot .a).state ≠ .free) ∧
    (holderEmptied (part .quiet) 0 ∧ holderEmptied (refusedOften (part .quiet)) 15 ∧
      ¬ ((part .quiet).mgt.run = .run ∨ (part .quiet).mgt.run = .quiescing)) ∧
    (let u := holding .quiescing (packOf .closing [.granted])
     holderEmptied u 0 ∧ u.aru.releases = [] ∧ u.fen.items = [] ∧ u.sel.claims.find? Claim.isWaiting = none ∧ u.pvw.items = [] ∧
       (u.slot .a).state ≠ .free) := by
  unfold holderEmptied State.noneToAdmit
  decide +kernel
theorem witness_HolderEmptied_beacons :
    let item (slot : SlotId) : BeaconItem := ⟨slot, 0, 4, .opened, 0xAB, 1, 3⟩
    (let u : State := { packing with pvw := { items := [item .a] } }
     holderEmptied u 0 ∧ u.aru.releases = [] ∧ u.fen.items = [] ∧ u.sel.claims.find? Claim.isWaiting = none ∧ u.pvw.items = item .a :: [] ∧
       u.accepting = some .a ∧ (item .a).seq = (u.slot .a).seq ∧ (item .a).phase.holding = true) ∧
    (let u : State := { holding .run (packOf .closed [.done]) with pvw := { items := [item .a] } }
     holderEmptied u 0 ∧ u.pvw.items = item .a :: [] ∧ u.accepting = none) ∧
    (let u : State := { formingPart .run with pvw := { items := [item .b] } }
     holderEmptied u 0 ∧ u.sel.claims.find? Claim.isWaiting = none ∧ u.accepting = some .a ∧ (u.slot .a).state = .forming ∧
       (item .b).slot ≠ .a) ∧
    (let u : State := { packing with pvw := { items := [item .b] } }
     holderEmptied u 0 ∧ u.accepting = some .a ∧ (u.slot .a).state = .opened ∧ (item .b).slot ≠ .a) := by
  unfold holderEmptied State.noneToAdmit
  decide +kernel
theorem witness_MediumRefuses :
    State.reset.lif.holder = none ∧
    (let u (n : Nat) : State := { part .halted with lif := ⟨3, some ⟨[7], n⟩⟩ }
     (u 14).lif.holder = some ⟨[7], 14⟩ ∧ 14 < 15 ∧ (u 15).lif.holder = some ⟨[7], 15⟩ ∧
       (u 15).aru.releases = [] ∧ (u 15).fen.items = [] ∧ (u 15).mgt.run = .halted) := by
  decide +kernel

/-! ### Witnesses: closing -/

theorem witness_PackCloses :
    let s := packing
    s.accepting = some .a ∧ (s.slot .a).state = .opened ∧ s.closeReady .a = false ∧ s.holderFull ∧ s.mgt.clock = some 7500 ∧
    (s.slot .a).ageDeadline = some 7500 ∧ s.mgt.restarting = false ∧ s.mgt.run = .run ∧ 7500 ≤ 7500 := by
  unfold State.holderFull
  decide +kernel
theorem witness_PackCloseCompletes :
    let s := holding .run (packOf .opened [.done])
    s.accepting = some .a ∧ (s.slot SlotId.a.other).state.accepting = false ∧ (s.slot .a).state = .opened ∧ s.closeReady .a = true ∧
    s.mgt.run = .run ∧ s.mgt.restarting = false ∧ s.holderFull ∧ s.oft.candidates = [] := by
  unfold State.holderFull
  decide +kernel
theorem witness_QuietEntered :
    (let s := part .run
     s.mgt.run = .run ∧ s.mgt.restarting = false ∧ s.holderFull ∧ s.accepting = none ∧ (s.slot .a).state = .free ∧ (s.slot .b).state = .free ∧
       s.aru.releases = []) ∧
    (let s := holding .run (packOf .closed [.done])
     s.mgt.run = .run ∧ s.mgt.restarting = false ∧ s.holderFull ∧ s.accepting = none ∧ (s.slot .a).state ≠ .free) ∧
    (let s : State := { part .quiescing with aru := { releases := [⟨⟨4, 70⟩, .abort⟩] } }
     s.mgt.run = .quiescing ∧ (s.slot .a).state = .free ∧ (s.slot .b).state = .free ∧ s.aru.releases = [⟨⟨4, 70⟩, .abort⟩] ∧
       s.lif.holder = some ⟨[], 0⟩) ∧
    (let s : State :=
       { holding .quiescing { closedPack with state := .ending } with
         drn := { port := .up, current := some { currentA with endSent := true }, window := [.packEnd] } }
     s.mgt.run = .quiescing ∧ s.drn.window = [.packEnd] ∧ s.holderFull ∧
       s.aru.releases = [] ∧ (s.slot .a).state = .ending ∧ (s.slot SlotId.a.other).state = .free) := by
  unfold State.holderFull
  decide +kernel

/-! ### Witnesses: commit -/

/-- A CLOSED pack of a DONE, a VOID and a data-kept VOID member, its manifest in its one segment. -/
def writtenPack : Slot :=
  { packOf .closed [.done, .void .fetch, .void .withdrawn] with
    manifest := some ⟨6, [.done, .void .fetch, .void .withdrawn].zipIdx.map fun m => Member.manifestEntry (memberOf (20 + m.2) (2 * m.2) m.1),
      6, 1⟩ }
/-- R147: with all its cells below E, segment 0 is committable once the last member it touches is settled, and not before. -/
theorem test_commit_at_settling :
    let s : State := { packing with pkb := { slotA := { packOf .opened [.done, .void .fetch, .fetching] with e := 2046 } } }
    let t := (s.modMember ⟨.a, 2⟩ fun m => { m with state := .done }).committable .a
    s.committable .a = none ∧ t = some (0, 0) := by decide +kernel
theorem witness_CommitTest :
    let s := packing
    s.accepts 0x25#8 (dataOf 22 0 true nine) 1 ∧ readData (dataOf 22 0 true nine) 1 = some (s.lif.station, ⟨22, 0, true, nine⟩) ∧
    s.receivingSlot ⟨1, 22⟩ = some (0, fetchOfIndex 2 0) ∧ 0 + nine.length = 9 ∧ (s.slot .a).state = .opened ∧
    s.holderFull ∧ s.noneToAdmit := by
  unfold State.accepts State.noneToAdmit State.holderFull
  decide +kernel
theorem witness_CommitWrites :
    writtenPack.laidOut ∧ writtenPack.primaryKey = some 0xAB ∧ writtenPack.openTime = some 5 ∧
    (seg 0 = 0 ∧ seg 1 = 0 ∧ writtenPack.members[0]? = some (memberOf 20 0 .done)) ∧
    writtenPack.members[2]? = some (memberOf 22 4 (.void .withdrawn)) ∧
    (seg (6 + 0) = 0 ∧ seg (6 + 1) = 0 ∧ 1 < mc 3) ∧ (6 + mc 3 ≤ 2045 ∧ seg 2045 = 0) ∧
    (let x : Slot := { packOf .opened [] with e := 2047, members := [{ memberOf 20 0 .done with footprint := 2047, dataPresent := true }] }
     x.laidOut ∧ x.members[0]? = some { memberOf 20 0 .done with footprint := 2047, dataPresent := true } ∧ 0 < 2046 ∧ 2046 < 0 + 2047 ∧
       seg 2046 = 1 ∧ seg 0 ≠ 1) := by
  unfold Slot.laidOut
  decide +kernel

/-! ### Witnesses: the drain port -/

theorem witness_Ready :
    let s (port : PortState) : State := { part .run with drn := { port := port, abandon := some ⟨0, 4, 2⟩ } }
    (∀ port, (s port).holderFull ∧ (s port).quietNow = false) ∧ (s .down).drn.port = .down ∧
    ((s .up).drn.port = .up ∧ (s .up).drn.abandon = some ⟨0, 4, 2⟩ ∧ (s .up).haltDue = false ∧ (s .up).pending = []) := by
  refine ⟨fun port => ⟨rfl, by cases port <;> rfl⟩, rfl, rfl, rfl, ?_, rfl⟩
  decide +kernel
/-- R165: with a committed segment in the queue, the step after READY issues PACK-START and nothing more, and a FAULT taken then aborts the pack
before its SEGMENT is sent. -/
theorem test_fault_between_issues :
    let s : State :=
      { holding .run (packOf .opened [.granted]) with drn := { port := .up, queue := [⟨.a, 4, 0, 0⟩] }, spl := withBuffer .ready }
    let t := s.idle
    let u := after (.fault (le 4 0 ++ le 4 4 ++ [1])) t
    (t.emitted = [.message (.packStart 3 0 4 32 0xAB 5)] ∧ t.drn.queue = [⟨.a, 4, 0, 0⟩] ∧ t.mgt.clock = some 7500) ∧
    u.emitted = [.message (.abandon 3 0 4 0)] ∧ u.drn.queue = [] ∧ u.count .segmentsSent = 0 := by decide +kernel
theorem witness_NextMessage :
    let s : State := holding .run closedPack
    let x : DrainEntry := ⟨.a, 4, 1, 0⟩
    s.drn.port = .down ∧
    (let u : State := { s with drn := { port := .up, abandon := some ⟨0, 4, 2⟩ } }
     u.drn.port = .up ∧ u.drn.abandon = some ⟨0, 4, 2⟩) ∧
    (let u : State := { s with drn := { port := .up, queue := [x] } }
     u.drn.abandon = none ∧ u.drn.current = none ∧ u.drn.queue = x :: [] ∧ (u.slot x.slot).primaryKey = some 0xAB ∧
       (u.slot x.slot).openTime = some 5) ∧
    (let u : State := { s with drn := { port := .up, queue := [x], current := some currentA, window := [.segment 0, .segment 0, .segment 0] }
                               spl := withBuffer .ready }
     u.drn.window.length < 4 ∧ x.slot = currentA.slot ∧ x.segment = currentA.next ∧ (u.buffer x.buffer).state = .ready) ∧
    (let u : State := { s with drn := { port := .up, current := some currentA } }
     u.drn.window.length < 4 ∧ u.drn.queue = [] ∧ (u.slot .a).manifest = some ⟨2, [Member.manifestEntry (memberOf 20 0 .done)], 6, 1⟩ ∧
       currentA.next = 1 ∧ currentA.endSent = false ∧ (u.slot .a).state = .closed) := by
  decide +kernel
/-- A memory whose buffer 0 holds a number in the data CRC field of its tail. -/
theorem tail_written (m : Memory) (w : Word32) :
    let cells := (m.write 1048082 (le 4 w.toNat)).readRange 0 1048576
    fieldAt cells 1048082 4 = w.toNat ∧ cells.take 1048064 = (m.readRange 0 1048576).take 1048064 := by
  refine ⟨?_, ?_⟩
  · rw [Memory.fieldAt_readRange _ _ _ _ _ (by decide)]
    have h := Memory.readRange_write_here m 1048082 (le 4 w.toNat)
    rw [le_length] at h
    rw [Nat.zero_add, h, ofLe_le]
    exact Nat.mod_eq_of_lt w.isLt
  · rw [Memory.readRange_take _ _ _ _ (by decide), Memory.readRange_take _ _ _ _ (by decide)]
    exact Memory.readRange_write_other _ _ _ _ _ (Or.inl (by decide))
theorem witness_NextMessage_check :
    (∃ m : Memory, let cells := m.readRange 0 1048576
      fieldAt cells 1048082 4 = (crc32 (cells.take 1048064)).toNat) ∧
    (∃ m : Memory, let cells := m.readRange 0 1048576
      fieldAt cells 1048082 4 ≠ (crc32 (cells.take 1048064)).toNat) := by
  generalize hv : crc32 ((Memory.readRange [] 0 1048576).take 1048064) = v
  refine ⟨⟨Memory.write [] 1048082 (le 4 v.toNat), ?_⟩, ⟨Memory.write [] 1048082 (le 4 (v + 1).toNat), ?_⟩⟩ <;> dsimp only
  · rw [(tail_written [] v).1, (tail_written [] v).2, hv]
  · rw [(tail_written [] (v + 1)).1, (tail_written [] (v + 1)).2, hv]
    intro h
    have := BitVec.eq_of_toNat_eq h
    bv_omega
theorem witness_CommitHandsOver :
    4294967295 < 2 ^ 32 ∧ (packing.buffer 0).state ≠ .retired := by
  decide +kernel
theorem witness_StoredAccepted :
    let s : State :=
      { holding .run (packOf .opened [.done]) with
        drn := { port := .up, current := some currentA, window := [.segment 0, .segment 1] }, spl := withBuffer .draining }
    let u : State :=
      { holding .run { closedPack with state := .ending } with
        drn := { port := .up, current := some { currentA with endSent := true }, window := [.packEnd] } }
    (s.drn.current = some currentA ∧ s.holderFull ∧ s.noneToAdmit ∧
      s.mgt.run ≠ .quiescing ∧ s.drn.window = .segment 0 :: [.segment 1] ∧
      s.bufferOf .a 0 = some 0 ∧ (s.buffer 0).state = .draining) ∧
    (u.holderFull ∧ u.noneToAdmit ∧ u.drn.window = [.packEnd] ∧
      (u.slot .a).state = .ending ∧ (u.slot .a).manifest.isSome = true ∧ (u.slot .a).primaryKey = some 0xAB ∧
      (u.slot .a).openTime = some 5) := by
  unfold State.noneToAdmit State.holderFull
  decide +kernel
theorem witness_DrainDiscards :
    let s : State := { part .run with drn := { port := .up, current := some currentA, window := [.segment 7] } }
    s.drn.current = some currentA ∧ s.drn.window = .segment 7 :: [] ∧
    ¬ ((WindowMsg.segment 7 = .packEnd ∧ 8#32 = 0xFFFFFFFF#32) ∨ (WindowMsg.segment 7 = .segment (8#32).toNat ∧ 8#32 ≠ 0xFFFFFFFF#32)) ∧
    ¬ (0#32 = currentA.epoch ∧ 5#32 = currentA.seq) ∧ (named 0 4 8 ++ [0]).length ≠ 12 ∧ fieldAt (le 4 0 ++ le 4 4 ++ [3]) 8 1 = 3 ∧
    malformedMessage [0x84] = true ∧ malformedMessage [] = true := by
  decide +kernel
theorem witness_DrainGoesDown :
    let s : State :=
      { holding .run closedPack with drn := { port := .up, current := some currentA, window := [.segment 0], deadline := some 7500 } }
    s.drn.current = some currentA ∧ (s.slot .a).state.abortable = true ∧ s.mgt.clock = some 7500 ∧ s.drn.deadline = some 7500 ∧
    s.drn.port = .up := by
  decide +kernel
/-! ### Witnesses: aborts and carry-over -/

theorem witness_AbortReleases :
    let s : State := { holding .run (packOf .opened [.granted, .void .fetch, .granted]) with sel := { claims := [claimOf 30 (some .a)] } }
    (s.slot .a).state.abortable = true ∧ (s.slot .a).primaryKey = some 0xAB ∧ (s.slot .a).openTime = some 5 ∧
    (∀ m ∈ (s.slot .a).members, m.state ≠ .done) ∧ (∀ c ∈ s.aru.copies, c.target.slot ≠ .a) ∧ (∀ r ∈ s.fen.queue, r.slot = .a) ∧
    s.aru.releases.length + (s.slot .a).members.length ≤ 8200 := by
  decide +kernel

/-- A copy from slot B into the member of slot A with this index. -/
def copyInto (index : Nat) : Copy := ⟨.b, 0, 2, ⟨.a, index⟩, 2 * index⟩
/-- The record of a pack that carried its two members out. -/
def carriedRecord : PackRecord := ⟨3, 0, 3, .aborted .media, 0, 2, 0, 2, 0, 0xAB, 5, 7⟩
/-- A carry from slot B into slot A. -/
def carrying : State :=
  { part .run with
    pkb :=
      { slotA := packOf .opened [.copying, .copying]
        slotB := { state := .carrying, seq := 3, record := some carriedRecord }, nextSeq := 5 }
    spl := { buffers := ((Vector.replicate 64 {}).set 0 ⟨.filling, some (.a, 0)⟩).set 1 ⟨.held, some (.b, 0)⟩ }
    aru := { copies := [copyInto 0, copyInto 1] } }

theorem witness_CopyCompletes :
    (part .run).aru.copies = [] ∧
    (carrying.aru.copies = copyInto 0 :: copyInto 1 :: [] ∧ (copyInto 1).footprint ≠ 1 ∧ (carrying.slot .a).state = .opened ∧
      (carrying.slot .a).segmentOpen ∧ carrying.holderFull ∧ carrying.noneToAdmit) := by
  unfold State.holderFull State.noneToAdmit Slot.segmentOpen
  decide +kernel
theorem witness_CopyCompletes_moves :
    carrying.member? (copyInto 0).target = some (memberOf 20 0 .copying) ∧ (copyInto 0).source ≠ (copyInto 0).target.slot ∧ 1 ≤ (copyInto 0).footprint ∧
    (memberOf 20 0 .copying).file.name.length ≤ 200 ∧
    (∀ i, i < 2 → (carrying.bufferOf .a (seg (0 + i))).isSome = true) ∧
    (∀ i, i < 2 → (carrying.bufferOf .b (seg (0 + i))).isSome = true) := by
  decide +kernel
/-- R185, R186: a WITHDRAW of each COPYING member in turn stops the copies and ends the carry with its record. -/
theorem test_withdrawn_copies :
    let t := after (.withdraw (withdrawOf 20)) carrying
    let u := after (.withdraw (withdrawOf 21)) t
    (t.aru.copies = [copyInto 1] ∧ (t.buffer 1).state = .held ∧ (t.slot .b).state = .carrying) ∧
    (u.aru.copies = [] ∧ (u.buffer 1).state = .free ∧ (u.slot .b).state = .free ∧ u.mgt.records = [carriedRecord] ∧
      u.count .copiesStopped = 2) := by decide +kernel
theorem witness_CarryEnds :
    let one : State := { carrying with aru := { copies := [copyInto 1] } }
    ((carrying.slot .b).state = .carrying ∧ (carrying.slot .b).record = some carriedRecord ∧ (carrying.slot SlotId.b.other).state ≠ .carrying) ∧
    (one.aru.copies = [copyInto 1] ∧ one.member? (copyInto 1).target = some (memberOf 21 2 .copying) ∧ (one.slot .a).state = .opened ∧
      (one.slot .a).segmentOpen ∧ one.holderFull ∧ one.noneToAdmit) ∧
    (carrying.accepts 0x22#8 (withdrawOf 21) 1 ∧ readWithdraw (withdrawOf 21) 1 = some 21 ∧ carrying.candidate? ⟨1, 21⟩ = none ∧
      carrying.claim? ⟨1, 21⟩ = none ∧ carrying.liveMember ⟨1, 21⟩ = some ⟨.a, 1⟩ ∧ one.liveMember ⟨1, 21⟩ = some ⟨.a, 1⟩ ∧
      (∀ c ∈ carrying.aru.copies, c.footprint ≠ 1) ∧ carrying.holderFull ∧ carrying.noneToAdmit ∧
      (carrying.aru.copies.filter fun c => c.target ≠ ⟨.a, 1⟩) = [copyInto 0] ∧ (one.aru.copies.filter fun c => c.target ≠ ⟨.a, 1⟩) = []) ∧
    ((carrying.slot .a).state.abortable = true ∧ (carrying.slot .a).primaryKey = some 0xAB ∧ (carrying.slot .a).openTime = some 5 ∧
      carrying.aru.copies ≠ [] ∧ (∀ c ∈ carrying.aru.copies, c.target.slot = .a) ∧ (∀ q ∈ carrying.fen.queue, q.slot = .a) ∧
      carrying.aru.releases.length + (carrying.slot .a).members.length ≤ 8200) := by
  unfold State.holderFull State.noneToAdmit State.accepts Slot.segmentOpen
  decide +kernel
theorem witness_AbortCarries :
    let s : State :=
      { part .run with
        pkb := { slotA := packOf .opened [.done], slotB := { packOf .closed [.done] with seq := 3 }, nextSeq := 5 }
        spl := { buffers := ((Vector.replicate 64 {}).set 0 ⟨.filling, some (.a, 0)⟩).set 1 ⟨.ready, some (.b, 0)⟩ } }
    let x := s.slot .a
    let room := s.roomOf .a
    AbortCause.media.plansCarry = true ∧ (s.slot .b).state = .closed ∧ (s.slot .b).primaryKey = some 0xAB ∧
    (s.slot .b).openTime = some 5 ∧ (s.slot .b).members = [memberOf 20 0 .done] ∧ 0 < 9 ∧ 2 = footprintOf 9 ∧
    (seg 0 = 0 ∧ seg (0 + 2 - 1) = 0 ∧ (s.buffer 1).bound = some (.b, 0) ∧ s.heldByPack .b 1 = true) ∧
    x.state = .opened ∧ x.segmentOpen ∧ Slot.segmentOpen { x with e := x.e + 2 } ∧ s.fen.queue = [] ∧ s.aru.copies = [] ∧
    x.members.length + (s.boundClaims .a).length + 1 < 4096 ∧
    x.e + room.q + 2 + mc (room.m + room.k + 1) + s.mgt.config.closeMargin ≤ room.u ∧
    demand x.taken (x.e + room.q + 2 + mc (room.m + room.k + 1)) ≤ s.bufferCount .free := by
  unfold Slot.segmentOpen
  decide +kernel
/-- A CLOSED pack of two DONE members in slot B, its buffer the second, with this pack in slot A and these buffers besides. -/
def cutting (x : Slot) (others : BufferState) : State :=
  { part .run with
    pkb := { slotA := x, slotB := { packOf .closed [.done, .done] with seq := 3 }, nextSeq := 5 }
    spl := { buffers := ((Vector.replicate 64 ⟨others, none⟩).set 0 ⟨.filling, some (.a, 0)⟩).set 1 ⟨.ready, some (.b, 0)⟩ } }
/-- The conditions shared by the clauses of CarryCutOff. -/
def cutsOff (s : State) : Prop :=
  AbortCause.media.plansCarry = true ∧ (s.slot .b).state.abortable = true ∧ (s.slot .b).primaryKey = some 0xAB ∧
  (s.slot .b).openTime = some 5 ∧ (s.slot .b).members = memberOf 20 0 .done :: [memberOf 21 2 .done] ∧
  ((∀ n ∈ (s.slot .b).members, n.state = .done ∧ seg n.headN = 0 ∧ seg (n.headN + n.footprint - 1) = 0) ∧
    (s.buffer 1).bound = some (.b, 0) ∧ s.heldByPack .b 1 = true) ∧
  s.aru.copies = [] ∧ (∀ q ∈ s.fen.queue, q.slot = .b) ∧ s.aru.releases.length + (s.slot .b).members.length ≤ 8200
/-- R182: with room for one member the second is released with FULL. -/
theorem test_cut_off :
    let s := withMargin (cutting { packOf .opened [.done] with e := 65498, taken := 32, commitPoint := some 31 } .free) 0
    let t := s.abortPack .b .media
    t.aru.releases = [⟨⟨1, 21⟩, .full⟩] ∧ t.aru.copies.length = 1 ∧ (t.slot .b).state = .carrying := by decide +kernel
theorem witness_CarryCutOff_none :
    (let s := cutting (packOf .closing [.granted]) .free
     cutsOff s ∧ (s.slot .a).state = .closing) ∧
    (let s : State := { cutting {} .free with pkb := { slotB := { packOf .closed [.done, .done] with seq := 3 }, nextSeq := 0xFFFFFFFF } }
     cutsOff s ∧ (s.slot .a).state = .free ∧ s.pkb.nextSeq = BitVec.allOnes 32) := by
  unfold cutsOff
  decide +kernel
theorem witness_CarryCutOff_full :
    (let s := cutting { packOf .opened [.done] with e := 65500 } .free
     cutsOff s ∧ (s.slot .a).state = .opened ∧ capacity (s.slot .a).limit < 65500 + 0 + 2 + mc (1 + 0 + 1)) ∧
    (let s := cutting { packOf .opened [.done] with e := 2045 } .held
     cutsOff s ∧ (s.slot .a).state = .opened ∧
       ((List.finRange 64).countP fun i => (s.buffer i).state = .free || s.heldByPack .b i && i ≠ 1) < demand 1 (2045 + 0 + 2 + mc (1 + 0 + 1))) ∧
    (let s := cutting {} .held
     cutsOff s ∧ (s.slot .a).state = .free ∧ s.pkb.nextSeq ≠ BitVec.allOnes 32 ∧ s.mgt.records.length < 31 ∧
       ((List.finRange 64).countP fun i => (s.buffer i).state = .free || s.heldByPack .b i && i ≠ 1) < demand 0 (2 + mc 1)) := by
  unfold cutsOff
  decide +kernel
theorem witness_CarryCutOff_second :
    let s := withMargin (cutting { packOf .opened [.done] with e := 65498, taken := 32, commitPoint := some 31 } .free) 0
    let x := s.slot .a
    cutsOff s ∧ x.state = .opened ∧ x.segmentOpen ∧ Slot.segmentOpen { x with e := x.e + 2 } ∧ s.fen.queue = [] ∧ 2 = footprintOf 9 ∧
    x.members.length + (s.boundClaims .a).length + 1 < 4096 ∧
    x.e + 0 + 2 + mc (1 + 0 + 1) + s.mgt.config.closeMargin ≤ capacity x.limit ∧ demand x.taken (x.e + 0 + 2 + mc (1 + 0 + 1)) ≤ 0 ∧
    capacity x.limit < x.e + 0 + 2 + 2 + mc (1 + 0 + 2) := by
  unfold cutsOff Slot.segmentOpen
  decide +kernel

/-! ### Witnesses: the management port -/

theorem witness_Exchange :
    let s (r : Option Response) : State := { part .run with mgt := { run := .run, response := r } }
    ((s (some ⟨.done, [], false⟩)).mgt.response = some ⟨.done, [], false⟩) ∧ (s none).mgt.response = none ∧
    (s (some ⟨.done, [], true⟩)).mgt.response = some ⟨.done, [], true⟩ := by
  decide +kernel
theorem witness_WritesJudged :
    State.reset.mgt.run = .selftest ∧ ({ part .run with mgt := { run := .run, restarting := true } } : State).mgt.restarting = true ∧
    ((part .halted).mgt.run ≠ .selftest ∧ (part .halted).mgt.restarting = false ∧ (part .halted).mgt.run ≠ .config ∧
      (part .halted).mgt.run ≠ .run ∧ (part .halted).mgt.run ≠ .quiescing ∧ (part .halted).mgt.run ≠ .quiet ∧
      (part .halted).mgt.records = []) ∧
    (0x04#8 ∉ [0x01#8, 0x02#8, 0x03#8, 0x10#8, 0x11#8, 0x20#8, 0x21#8, 0x22#8, 0x23#8, 0x30#8, 0x3F#8]) ∧ 9 < (10#8).toNat ∧ 3 < (4#8).toNat ∧
    (List.replicate 42 (0 : Byte)).length < 43 ∧ 43 ≤ (List.replicate 43 (0 : Byte)).length := by
  decide +kernel
theorem witness_PagesAnswered :
    let s := packing
    s.mgt.run ≠ .selftest ∧ s.mgt.restarting = false ∧ (∀ id : SlotId, (s.slot id).state ≠ .aborted) ∧ (s.slot .a).e < 2 ^ 32 ∧
    (s.slot .a).members.length ≤ 4096 ∧ s.spl.promised ≤ 64 ∧ s.drn.window.length ≤ 4 ∧ s.oft.candidates.length ≤ 1024 ∧
    s.sel.claims.length ≤ 8 ∧ s.aru.releases.length ≤ 8200 ∧ s.mgt.records.length ≤ 32 := by
  refine ⟨by decide, by decide, fun id => by cases id <;> decide, ?_⟩
  decide +kernel
/-- Section 11.9, steps 5 and 6: the two CONFIGURE writes. -/
def writtenRecord (mask : Nat) : List Byte :=
  le 4 7 ++ le 8 1700000000 ++ [8] ++ le 8 mask ++ le 2 50000 ++ le 2 2047 ++ le 2 300 ++ le 2 0 ++ [5] ++ le 2 200 ++ [4] ++ le 2 500 ++
    [6] ++ le 4 3600 ++ le 2 5000 ++ [0]
theorem witness_Configure :
    (part .config).mgt.run = .config ∧ (part .config).mgt.restarting = false ∧ 43 ≤ (writtenRecord 0xFFFFFFFF00000000).length ∧
    (∀ i, i < 64 → ((BitVec.ofNat 64 (fieldAt (writtenRecord 0xFFFFFFFF00000000) 13 8)).getLsbD i = true ↔ 32 ≤ i ∧ i ≤ 32 + 31)) ∧
    43 ≤ (writtenRecord 0x8000000000000001).length := by
  decide +kernel
theorem test_configure_clamps :
    (readConfig (writtenRecord 0xFFFFFFFF00000000)).packLimit = 16384 ∧ (readConfig (writtenRecord 0xFFFFFFFF00000000)).fetchSlots = 4 := by
  decide +kernel
theorem witness_RunEntered_start :
    let s : State := { exhausted with mgt := { run := .config }, oft := ⟨[⟨file 5 9, none, none, some .pendingEnd⟩]⟩ }
    s.mgt.run = .config ∧ s.mgt.restarting = false ∧ 24 ≤ s.inService ∧ s.holderFull ∧ s.accepting = none ∧ s.canForm = false := by
  unfold State.holderFull
  decide +kernel
theorem witness_RunEntered_resume :
    (part .quiet).mgt.run = .quiet ∧ (part .quiet).mgt.restarting = false ∧ (part .quiet).mgt.clock = some 7500 ∧ (part .quiet).holderFull ∧
    (part .quiet).oft.candidates = [] := by
  unfold State.holderFull
  decide +kernel
theorem witness_TakeRecord :
    let r : PackRecord := ⟨13, 7, 0, .aborted .halt, 1, 2, 1, 0, 1, 0xAB, 5, 6⟩
    let s : State := { part .halted with mgt := { run := .halted, records := [r] } }
    s.mgt.run ≠ .selftest ∧ s.mgt.restarting = false ∧ s.mgt.records = r :: [] ∧ s.holderFull ∧ s.noneToAdmit ∧ s.quietNow = false := by
  unfold State.holderFull State.noneToAdmit
  decide +kernel
theorem witness_Restart :
    let up : State := { packing with drn := { port := .up, current := some currentA, window := [.segment 0], deadline := some 9000 } }
    (packing.mgt.run ≠ .selftest ∧ packing.mgt.restarting = false ∧ (∀ id : SlotId, (packing.slot id).state ≠ .aborted) ∧
      ¬ ((packing.slot .a).state = .carrying ∧ (packing.slot .b).state = .carrying) ∧ packing.holderFull ∧
      packing.aru.releases.length + (packing.givenUpReleases .restart).length ≤ 8200) ∧
    up.currentGivenUp = some currentA ∧ up.drn.port = .up :=
  ⟨⟨by decide, by decide, fun id => by cases id <;> decide, by decide, rfl, by decide⟩, rfl, rfl⟩
/-- A state with the first n buffers RETIRED. -/
def retired (n : Nat) (s : State) : State :=
  { s with spl := { buffers := Vector.ofFn fun i => if i.val < n then ⟨.retired, none⟩ else {} } }
theorem witness_EntryToHalted :
    24 ≤ (retired 40 packing).inService ∧ (retired 41 packing).inService < 24 ∧ (retired 41 packing).mgt.run ≠ .selftest ∧
    (retired 41 packing).mgt.run ≠ .halted := by
  decide +kernel
/-- R206: a RESTART to CONFIG and straight back to HALTED leaves the attention output asserted, also while a read comes between. -/
theorem test_attention_held :
    let t := after (.restart []) (retired 41 (part .halted))
    let u := after (.responseRead 3) t
    let v := after .entryToHalted u
    (t.mgt.run = .config ∧ t.mgt.records = [] ∧ t.attention = true) ∧ u.attention = true ∧
    (v.mgt.run = .halted ∧ v.attention = true ∧ v.mgt.attentionHeld = false) ∧
    (after (.restart []) (retired 40 (part .halted))).attention = false := by decide +kernel

/-! ### Witnesses: encodings and invariants -/

theorem witness_UsableNumbers : 2045 < 2046 ∧ 0 < 2047 ∧ ¬ (0 = 0 ∧ 1 = 0) ∧ 2046 < 2047 := by
  decide +kernel
theorem witness_EncodingsReadBack_frames :
    (List.replicate 4200 (0 : Byte)).length ≤ 4200 ∧ 4294967295 < 2 ^ 32 ∧ (file 5 9).pair.source = 1 ∧ (file 5 9).size < 2 ^ 32 ∧
    (file 5 9).cls ≤ 15 ∧ (file 5 9).name.length ≤ 200 := by
  decide +kernel
theorem witness_EncodingsReadBack_config : ConfigInRange { packLimit := 16384, pendingMax := 8, rotation := 63 } := by
  unfold ConfigInRange
  decide +kernel
theorem witness_SoundKept : packing.Sound ∧ step packing = .next packing.idle :=
  ⟨⟨by unfold Oft.bounded; decide +kernel, by unfold Sel.bounded; decide, by unfold Aru.bounded; decide, by unfold Drn.bounded; decide,
    fun h e => by cases e; decide, by unfold ConfigInRange; decide +kernel, by unfold Pkb.oneAccepting; decide,
    by unfold State.recordsFit; decide, by decide⟩, rfl⟩
theorem witness_PairsStayDistinct :
    ({ claiming with oft := ⟨[listed 5 none]⟩ } : State).pairsDistinct ∧ step claiming = .next claiming.idle :=
  ⟨by unfold State.pairsDistinct; decide +kernel, rfl⟩
theorem witness_OnlyHardReset : (∀ straps, Instr.peerSweep ≠ .hardReset straps) ∧ (∀ params, Instr.peerSweep ≠ .configure params) ∧
    (∀ write, Instr.peerSweep ≠ .unknownCommand write) ∧ (∃ t, exec .peerSweep packing = .next t) ∧
    (let s : State := { part .run with spl := withBuffer .retired }
     (s.buffer 0).state = .retired) :=
  ⟨nofun, nofun, nofun, ⟨_, rfl⟩, rfl⟩

end Sys2Proof.Tests
end

/-! ## Usable numbers (R2) -/

namespace Sys2Proof.Machine

/-- A usable number's cell is no tail cell. -/
theorem cellOf_lt (n : Nat) : cellOf n < 2047 := by
  unfold cellOf seg; omega

/-- A usable number is told by its segment and its cell there. -/
theorem eq_of_seg_cellOf {m n : Nat} (hs : seg m = seg n) (hc : cellOf m = cellOf n) : m = n := by
  unfold cellOf seg at *; omega

/-- The segment and the cell of a usable number are those of its physical cell (R2, both forms). -/
theorem seg_eq_physicalCell (n : Nat) : seg n = physicalCell n / 2048 := by
  unfold seg physicalCell; omega

theorem cellOf_eq_physicalCell (n : Nat) : cellOf n = physicalCell n % 2048 := by
  unfold cellOf seg physicalCell; omega

theorem physicalCell_strictMono {m n : Nat} (h : m < n) : physicalCell m < physicalCell n := by
  unfold physicalCell; omega

/-- The reverse mapping (R2): usable number 2,047 k + c - 1 is cell c of segment k. -/
theorem seg_usableOf {k c : Nat} (hc : c < 2047) : seg (usableOf k c) = k := by
  unfold seg usableOf; omega

theorem cellOf_usableOf {k c : Nat} (hc : c < 2047) (h : ¬ (c = 0 ∧ k = 0)) : cellOf (usableOf k c) = c := by
  rw [cellOf, seg_usableOf hc]
  unfold usableOf; omega

/-- The usable numbers of a segment run from its first to its last (R2, table). -/
theorem seg_eq_iff (n k : Nat) : seg n = k ↔ firstUsable k ≤ n ∧ n ≤ lastUsable k := by
  unfold seg firstUsable lastUsable; omega

/-- Within a segment, cells are as far apart as the usable numbers. -/
theorem cellOf_add_of_seg {m n : Nat} (hs : seg m = seg n) (h : m ≤ n) : cellOf n = cellOf m + (n - m) := by
  unfold cellOf seg at *; omega

theorem seg_mono {m n : Nat} (h : m ≤ n) : seg m ≤ seg n := by
  unfold seg; omega

/-- Settles O55. -/
theorem usableNumbers : Obligations.UsableNumbers := by
  intro n
  refine ⟨rfl, seg_eq_physicalCell n, cellOf_eq_physicalCell n, rfl, rfl, Nat.ne_of_lt (cellOf_lt n), ?_,
    fun m => physicalCell_strictMono, fun k c hc h => ⟨seg_usableOf hc, cellOf_usableOf hc h⟩,
    fun k _ => seg_eq_iff n k, ?_⟩
  · unfold physicalCell; omega
  · simpa [firstUsable, lastUsable] using seg_eq_iff n 0

end Sys2Proof.Machine

/-! ## Eligibility (R76) -/

namespace Sys2Proof.Machine

/-- An entry is live while fewer than three beacon intervals have passed since it was heard (R60). -/
theorem State.isLive_iff {s : State} {now : Nat} (hn : s.mgt.clock = some now) (x : PeerEntry) :
    s.isLive x = true ↔ ∃ h, x.lastHeard = some h ∧ now - h < 3 * s.mgt.config.beaconSecs * 1000 := by
  unfold State.isLive
  cases hx : x.lastHeard <;> simp [hn]

theorem PackPhase.holding_iff (p : PackPhase) : p.holding = true ↔ p = .opened ∨ p = .closing := by
  cases p <;> decide

/-- A key is held elsewhere when a live OPEN or CLOSING entry has it (R62). -/
theorem State.heldElsewhere_iff {s : State} {now : Nat} (hn : s.mgt.clock = some now) (key : Word64) :
    s.heldElsewhere key = true ↔ ∃ y ∈ s.pvw.table, y.key = key ∧ (y.phase = .opened ∨ y.phase = .closing) ∧
      ∃ h, y.lastHeard = some h ∧ now - h < 3 * s.mgt.config.beaconSecs * 1000 := by
  have entry (y : PeerEntry) : s.heldKey y = some key ↔ y.key = key ∧ y.phase.holding = true ∧ s.isLive y = true := by
    unfold State.heldKey
    cases s.isLive y <;> cases y.phase.holding <;> simp
  unfold State.heldElsewhere
  simp only [List.any_eq_true, decide_eq_true_eq, entry, PackPhase.holding_iff, State.isLive_iff hn]

/-- The key of a round (R76): an OPEN pack's primary or a FORMING pack's tentative key. -/
theorem Slot.roundKey_eq_some_iff (x : Slot) (k : Word64) :
    x.roundKey = some k ↔ (x.state = .opened ∧ x.primaryKey = some k) ∨ (x.state = .forming ∧ x.tentativeKey = some k) := by
  unfold Slot.roundKey
  cases x.state <;> simp

/-- The affinity term with no accepting pack (R76). -/
theorem State.affinity_of_none {s : State} {c : Candidate} {key : Word64} (hk : c.key = some key) (h : s.accepting = none)
    (a : Nat) : s.affinity c = some a ↔ a = 320 ∧ s.heldElsewhere key = false := by
  unfold State.affinity
  cases hh : s.heldElsewhere key <;> simp [hk, h, hh, eq_comm]

/-- The affinity term with an accepting pack (R76). -/
theorem State.affinity_of_some {s : State} {c : Candidate} {key : Word64} {id : SlotId} (hk : c.key = some key)
    (h : s.accepting = some id) (a : Nat) :
    s.affinity c = some a ↔ (a = 512 ∧ (s.slot id).roundKey = some key) ∨
      (a = 128 ∧ (∃ k, (s.slot id).roundKey = some k ∧ k ≠ key) ∧ s.heldElsewhere key = false ∧
        s.mgt.config.strayAge ≤ s.ageOf c) := by
  unfold State.affinity
  simp only [hk, h]
  cases hr : (s.slot id).roundKey with
  | none => simp
  | some packKey =>
    by_cases e : packKey = key
    · subst e; simpa using eq_comm
    · have e' : key ≠ packKey := Ne.symm e
      by_cases g : s.heldElsewhere key = false ∧ s.mgt.config.strayAge ≤ s.ageOf c
      · simp [e', g, eq_comm]
      · simp [e, e', g]

/-- The room test of R8 and the buffer test of R10 on the quantities of a room. -/
theorem Room.tests_iff (r : Room) (f free : Nat) :
    r.fits f = true ∧ r.demandWith f ≤ free ↔ r.e + r.q + f + mc (r.m + r.k + 1) ≤ r.u ∧ r.m + r.k + 1 ≤ 4096 ∧
      seg (r.e + r.q + f + mc (r.m + r.k + 1) - 1) + 1 - r.taken ≤ free := by
  simp only [Room.fits, Room.demandWith, demand, Bool.and_eq_true, decide_eq_true_eq, and_assoc]

/-- A candidate is eligible with a term when it has that term, is not contested, and passes the room and buffer tests (R76). -/
theorem State.eligible_eq_some_iff (s : State) (c : Candidate) (a : Nat) :
    s.eligible c = some a ↔ s.affinity c = some a ∧ c.contest = none ∧ s.roundRoom.fits (footprintOf c.file.size) = true ∧
      s.roundRoom.demandWith (footprintOf c.file.size) ≤ s.bufferCount .free := by
  unfold State.eligible
  cases s.affinity c with
  | none => simp
  | some b => simp; tauto

/-- Settles O18, by whether there is an accepting pack. -/
theorem eligibility : Obligations.Eligibility := by
  intro c key now heard a s hk hn hf f held packKey passes tests
  have hage : s.ageOf c = (now - heard) / 1000 := by simp [State.ageOf, State.now, hn, hf]
  have hheld : s.heldElsewhere key = false ↔ ¬ held := by
    rw [← Bool.not_eq_true, State.heldElsewhere_iff hn]
  have htests : tests ↔ s.roundRoom.fits f = true ∧ s.roundRoom.demandWith f ≤ s.bufferCount .free := by
    rw [Room.tests_iff]
    cases h : s.accepting with
    | none =>
      simp only [tests, h, State.roundRoom, true_and, reduceCtorEq, false_and, exists_false, or_false]
      exact Iff.rfl
    | some id =>
      simp only [tests, h, State.roundRoom, reduceCtorEq, false_and, false_or, Option.some.injEq, exists_eq_left']
      exact Iff.rfl
  rw [State.eligible_eq_some_iff, htests]
  cases h : s.accepting with
  | none =>
    have hno : ∀ k, ¬ packKey k := by simp [packKey, h]
    rw [State.affinity_of_none hk h, hheld]
    simp only [hno, false_and, and_false, exists_false, or_false, false_or, true_and]
    tauto
  | some id =>
    have hkey : ∀ k, packKey k ↔ (s.slot id).roundKey = some k := by simp [packKey, h, Slot.roundKey_eq_some_iff]
    rw [State.affinity_of_some hk h, hheld, hage]
    simp only [hkey, reduceCtorEq, false_and, and_false, false_or]
    tauto

end Sys2Proof.Machine

/-! ## Slots under the updates that leave the pack builder alone -/

namespace Sys2Proof.Machine

@[simp] theorem State.withLif_slot (s : State) (x : Lif) (id : SlotId) : (s.withLif x).slot id = s.slot id := rfl
@[simp] theorem State.withOft_slot (s : State) (x : Oft) (id : SlotId) : (s.withOft x).slot id = s.slot id := rfl
@[simp] theorem State.withPvw_slot (s : State) (x : Pvw) (id : SlotId) : (s.withPvw x).slot id = s.slot id := rfl
@[simp] theorem State.withSel_slot (s : State) (x : Sel) (id : SlotId) : (s.withSel x).slot id = s.slot id := rfl
@[simp] theorem State.withFen_slot (s : State) (x : Fen) (id : SlotId) : (s.withFen x).slot id = s.slot id := rfl
@[simp] theorem State.withSpl_slot (s : State) (x : Spl) (id : SlotId) : (s.withSpl x).slot id = s.slot id := rfl
@[simp] theorem State.withDrn_slot (s : State) (x : Drn) (id : SlotId) : (s.withDrn x).slot id = s.slot id := rfl
@[simp] theorem State.withAru_slot (s : State) (x : Aru) (id : SlotId) : (s.withAru x).slot id = s.slot id := rfl
@[simp] theorem State.withMgt_slot (s : State) (x : Mgt) (id : SlotId) : (s.withMgt x).slot id = s.slot id := rfl
@[simp] theorem State.withCounters_slot (s : State) (x : Vector Counter 84) (id : SlotId) : (s.withCounters x).slot id = s.slot id := rfl
@[simp] theorem State.withMem_slot (s : State) (x : Memory) (id : SlotId) : (s.withMem x).slot id = s.slot id := rfl
@[simp] theorem State.withWake_slot (s : State) (x : Bool) (id : SlotId) : (s.withWake x).slot id = s.slot id := rfl
@[simp] theorem State.withEmitted_slot (s : State) (x : List Emission) (id : SlotId) : (s.withEmitted x).slot id = s.slot id := rfl
@[simp] theorem State.withPending_slot (s : State) (x : List Instr) (id : SlotId) : (s.withPending x).slot id = s.slot id := rfl

@[simp] theorem State.bump_slot (s : State) (c : Ctr) (id : SlotId) : (s.bump c).slot id = s.slot id := rfl
@[simp] theorem State.wakeUp_slot (s : State) (id : SlotId) : s.wakeUp.slot id = s.slot id := rfl
@[simp] theorem State.begin_slot (s : State) (id : SlotId) : s.begin.slot id = s.slot id := rfl
@[simp] theorem State.recomputePromised_slot (s : State) (id : SlotId) : s.recomputePromised.slot id = s.slot id := rfl
@[simp] theorem State.setBuffer_slot (s : State) (i : Fin 64) (x : Buffer) (id : SlotId) :
    (s.setBuffer i x).slot id = s.slot id := State.slot_of_pkb (State.setBuffer_pkb ..) id

end Sys2Proof.Machine

/-! ## Buffers and file bytes -/

namespace Sys2Proof.Machine

/-- The buffer of a segment is bound to it (R143). -/
theorem State.bufferOf_bound {s : State} {id : SlotId} {k : Nat} {b : Fin 64} (h : s.bufferOf id k = some b) :
    (s.buffer b).bound = some (id, k) := by
  simpa using List.find?_some h

/-- One buffer is bound to one segment of one slot. -/
theorem State.bufferOf_inj {s : State} {id id' : SlotId} {k k' : Nat} {b : Fin 64} (h : s.bufferOf id k = some b)
    (h' : s.bufferOf id' k' = some b) : id = id' ∧ k = k' := by
  have e := (State.bufferOf_bound h).symm.trans (State.bufferOf_bound h')
  simpa using e

theorem State.fileByteAddr_eq {s : State} {id : SlotId} {h x : Nat} {b : Fin 64}
    (hb : s.bufferOf id (seg (h + 1 + x / 512)) = some b) :
    s.fileByteAddr id h x = some (cellAddr b (cellOf (h + 1 + x / 512)) + x % 512) := by
  simp [State.fileByteAddr, hb]

theorem State.bufferOf_of_fileByteAddr {s : State} {id : SlotId} {h x a : Nat} (ha : s.fileByteAddr id h x = some a) :
    ∃ b, s.bufferOf id (seg (h + 1 + x / 512)) = some b ∧ a = cellAddr b (cellOf (h + 1 + x / 512)) + x % 512 := by
  unfold State.fileByteAddr at ha
  obtain ⟨b, hb, rfl⟩ := Option.map_eq_some_iff.1 ha
  exact ⟨b, hb, rfl⟩

/-- The place of a byte tells its buffer, its cell and its offset there. -/
theorem cellAddr_add_inj {b b' : Fin 64} {c c' x x' : Nat} (hc : c < 2048) (hc' : c' < 2048) (hx : x < 512) (hx' : x' < 512)
    (h : cellAddr b c + x = cellAddr b' c' + x') : b = b' ∧ c = c' ∧ x = x' := by
  unfold cellAddr bufferBytes at h
  refine ⟨Fin.ext ?_, ?_, ?_⟩ <;> omega

/-- Two bytes of one file never share an address. -/
theorem State.fileByteAddr_inj {s : State} {id : SlotId} {h x y a : Nat} (hx : s.fileByteAddr id h x = some a)
    (hy : s.fileByteAddr id h y = some a) : x = y := by
  obtain ⟨b, hb, ex⟩ := State.bufferOf_of_fileByteAddr hx
  obtain ⟨b', hb', ey⟩ := State.bufferOf_of_fileByteAddr hy
  have lt (n : Nat) : cellOf n < 2048 := Nat.lt_succ_of_lt (cellOf_lt n)
  obtain ⟨rfl, hcell, hoff⟩ := cellAddr_add_inj (lt _) (lt _) (Nat.mod_lt x (by decide)) (Nat.mod_lt y (by decide))
    (ex.symm.trans ey)
  have hn := eq_of_seg_cellOf (State.bufferOf_inj hb hb').2 hcell
  omega

/-- The bytes of a file as single writes, each to its own address, if it has one. -/
def Memory.writeBytes (addr : Nat → Option Nat) (off : Nat) (bs : List Byte) (m : Memory) : Memory :=
  (bs.zipIdx off).foldl (fun m bx => (addr bx.2).elim m fun a => m.write a [bx.1]) m

theorem State.writeFile_eq (s : State) (id : SlotId) (headN off : Nat) (bs : List Byte) :
    s.writeFile id headN off bs = s.withMem (Memory.writeBytes (s.fileByteAddr id headN) off bs s.mem) := by
  unfold State.writeFile Memory.writeBytes
  congr 2
  funext m bx
  cases s.fileByteAddr id headN bx.2 <;> rfl

theorem Memory.writeBytes_cons (addr : Nat → Option Nat) (off : Nat) (b : Byte) (bs : List Byte) (m : Memory) :
    Memory.writeBytes addr off (b :: bs) m =
      Memory.writeBytes addr (off + 1) bs ((addr off).elim m fun a => m.write a [b]) := rfl

/-- A byte whose address is none of those written reads as before. -/
theorem Memory.read_writeBytes_other {addr : Nat → Option Nat} {off : Nat} {bs : List Byte} {a : Nat} (m : Memory)
    (h : ∀ j, j < bs.length → addr (off + j) ≠ some a) : (Memory.writeBytes addr off bs m).read a = m.read a := by
  induction bs generalizing off m with
  | nil => rfl
  | cons b bs ih =>
    have head : addr off ≠ some a := h 0 (by simp)
    rw [Memory.writeBytes_cons, ih]
    · cases e : addr off with
      | none => rfl
      | some a' =>
        have ne : a ≠ a' := fun x => head (by rw [e, x])
        exact Memory.read_write_other m a' [b] a (by simp only [List.length_singleton]; omega)
    · intro j hj
      rw [Nat.add_assoc, Nat.add_comm 1]
      exact h (j + 1) (by simpa using hj)

/-- A byte written reads back, where no two bytes share an address. -/
theorem Memory.read_writeBytes_here {addr : Nat → Option Nat} {off j : Nat} {bs : List Byte} {b : Byte} {a : Nat} (m : Memory)
    (inj : ∀ x y a, addr x = some a → addr y = some a → x = y) (hj : bs[j]? = some b) (ha : addr (off + j) = some a) :
    (Memory.writeBytes addr off bs m).read a = b := by
  induction bs generalizing off j m with
  | nil => simp at hj
  | cons c bs ih =>
    rw [Memory.writeBytes_cons]
    cases j with
    | zero =>
      have hc : c = b := by simpa using hj
      rw [Nat.add_zero] at ha
      rw [Memory.read_writeBytes_other _ fun j _ e => by have := inj _ _ _ e ha; omega, ha, ← hc]
      exact Memory.read_write_here m a [c] 0 (by simp)
    | succ j => exact ih _ (by simpa using hj) (by rw [← ha]; congr 1; omega)

end Sys2Proof.Machine

/-! ## DATA that is accepted (R129, R130) -/

namespace Sys2Proof.Machine

/-- With no wake-up in the step, a FULL holder and no QUIET, nothing follows a command's own event. -/
theorem State.settle_unwoken {s : State} (hl : s.holderFull) (hw : s.wake = false) (hq : s.quietNow = false) :
    s.settle = s := by
  have hr : s.roundIfWoken = s := by simp [State.roundIfWoken, hw]
  unfold State.settle
  simp only [State.arbitrate_full hl, hr, State.testQuiet, hq]
  rfl

theorem State.holderFull_congr {s t : State} (h : s.holderFull) (hl : t.lif = s.lif) : t.holderFull := by
  unfold State.holderFull
  rw [hl]
  exact h

/-- The QUIET condition is read from the run state, the slots and the release list. -/
theorem State.quietNow_congr {s t : State} (hm : t.mgt = s.mgt) (hp : t.pkb = s.pkb) (ha : t.aru = s.aru) :
    t.quietNow = s.quietNow := by
  unfold State.quietNow
  rw [hm, hp, ha]

/-- A DATA at the byte the fetch waits for, within the file, is accepted (R129). -/
theorem State.dataArrives_accepted {s : State} {source : Station} {d : DataBody} {i : Fin 4} {x : Fetch}
    (h : s.receivingSlot ⟨source, d.ticket⟩ = some (i, x)) (ho : d.offset = x.received)
    (hs : d.offset + d.payload.length ≤ x.size) (hl : d.last = false) : s.dataArrives source d = s.acceptData i x d := by
  unfold State.dataArrives
  simp only [h]
  rw [if_neg (by simp [ho]), if_neg (by omega), if_neg (by simp [hl])]

theorem State.acceptData_more {s : State} {i : Fin 4} {x : Fetch} {d : DataBody} (hl : d.last = false) :
    s.acceptData i x d = (State.bump (s.withMem
        (Memory.writeBytes (s.fileByteAddr x.member.slot x.headN) d.offset d.payload s.mem)) .dataAccepted).setFetch i (some
      { x with received := d.offset + d.payload.length, running := crcRun x.running d.payload,
               phase := .receiving (s.now + s.mgt.config.fetchTimeout) }) := by
  unfold State.acceptData
  rw [State.writeFile_eq, if_neg (by simp [hl])]
  rfl

/-- Settles O26: each byte has an address of its own, and nothing follows an accepted DATA that is not the last. -/
theorem dataAccepted : Obligations.DataAccepted := by
  refine ⟨fun f sender d i x s hacc hread hfull hquiet hslot hoff hsize hlast => ?_, ?_⟩
  · refine ⟨Memory.writeBytes (s.fileByteAddr x.member.slot x.headN) d.offset d.payload s.mem, ?_,
      fun j b a hj ha => Memory.read_writeBytes_here _ (fun _ _ _ => State.fileByteAddr_inj) hj ha,
      fun a ha => Memory.read_writeBytes_other _ ha⟩
    have hrec : s.begin.receiveData f = ((s.begin.bump .framesAccepted).dataArrives sender d).settle :=
      (State.receive_accepted _ _ (State.accepts_begin hacc) hread).trans (if_pos rfl)
    have harr : (s.begin.bump .framesAccepted).dataArrives sender d = (s.begin.bump .framesAccepted).acceptData i x d :=
      State.dataArrives_accepted hslot hoff hsize hlast
    rw [harr, State.acceptData_more hlast] at hrec
    rw [State.settle_unwoken] at hrec
    · exact congrArg Host.Outcome.next hrec
    · exact State.holderFull_congr hfull (by simp [State.setFetch])
    · simp [State.setFetch]
    · rw [State.quietNow_congr (s := s), hquiet] <;> simp [State.setFetch]
  · intro s id h y b p hb
    rw [← seg_eq_physicalCell] at hb
    rw [State.fileByteAddr_eq hb, cellAddr, bufferBytes, cellOf_eq_physicalCell]

end Sys2Proof.Machine

/-! ## The fields of the written cells (R13 to R19) -/

namespace Sys2Proof.Machine

/-- A field that ends within the first bytes is their field. -/
theorem fieldAt_left (pre rest : List Byte) (off len : Nat) (h : off + len ≤ pre.length) :
    fieldAt (pre ++ rest) off len = fieldAt pre off len := by
  unfold fieldAt
  rw [List.drop_append_of_le_length (by omega), List.take_append_of_le_length (by rw [List.length_drop]; omega)]

theorem fieldAt_cons_zero (b : Byte) (bs : List Byte) : fieldAt (b :: bs) 0 1 = b.toNat := by
  simp [fieldAt, ofLe]

theorem fieldAt_cons_succ (b : Byte) (bs : List Byte) (n len : Nat) : fieldAt (b :: bs) (n + 1) len = fieldAt bs n len := rfl

@[simp] theorem flagByte_toNat (f : Bool) : (flagByte f).toNat = if f then 1 else 0 := by cases f <;> rfl

@[simp] theorem memberStateByte_toNat (x : MemberState) : (memberStateByte x).toNat = (writtenState x).1 := by
  cases x with
  | void why => cases why <;> rfl
  | _ => rfl

@[simp] theorem voidReasonByte_toNat (x : MemberState) : (voidReasonByte x).toNat = (writtenState x).2 := by
  cases x with
  | void why => cases why <;> rfl
  | _ => rfl

theorem padTo_length {n : Nat} {bs : List Byte} (h : bs.length ≤ n) : (padTo n bs).length = n := by
  simp only [padTo, List.length_append, List.length_replicate]; omega

theorem padTo_getElem? {n i : Nat} {bs : List Byte} (h : bs.length ≤ i) (hi : i < n) : (padTo n bs)[i]? = some 0 := by
  unfold padTo
  rw [List.getElem?_append_right h, List.getElem?_replicate, if_pos (by omega)]

theorem fieldAt_padTo {n : Nat} {bs : List Byte} {off len : Nat} (h : off + len ≤ bs.length) :
    fieldAt (padTo n bs) off len = fieldAt bs off len := fieldAt_left _ _ _ _ h

theorem fieldAt_checkedCell {fields : List Byte} {off len : Nat} (h : off + len ≤ fields.length) :
    fieldAt (checkedCell fields) off len = fieldAt fields off len := by
  unfold checkedCell padTo
  rw [List.append_assoc, fieldAt_left _ _ _ _ h]

/-- The layout of a checked cell, by its marker and the length of its fields (R11, R13). -/
theorem checkedLayout_checkedCell {fields marker : List Byte} {used : Nat} (hm : fields.take 4 = marker)
    (hl : fields.length = used) (h4 : 4 ≤ used) (h508 : used ≤ 508) : checkedLayout (checkedCell fields) marker used := by
  subst hm hl
  exact checkedCell_layout fields h4 h508

/-- The pack head carries its fields (R14). -/
theorem packHeadCell_isPackHead (station : Station) (epoch seq : Word32) (limit : Nat) (key openTime : Word64) :
    isPackHead (packHeadCell station epoch seq limit key openTime) station epoch seq limit key openTime := by
  unfold isPackHead packHeadCell
  refine ⟨checkedLayout_checkedCell (by simp) (by simp) (by decide) (by decide), ?_⟩
  simp (disch := simp) only [fieldAt_checkedCell, fieldAt_left, fieldAt_skip]
  simp [fieldAt_alone]
  omega

/-- The bytes of a field within a checked cell. -/
theorem take_drop_checkedCell {pre field post : List Byte} {off len : Nat} (ho : pre.length = off) (hl : field.length = len) :
    ((checkedCell (pre ++ field ++ post)).drop off).take len = field := by
  subst ho hl
  simp [checkedCell, padTo]

/-- A member head carries its fields (R15). -/
theorem memberHeadCell_isMemberHead (index : Nat) {m : Member} (h : m.file.name.length ≤ 200) :
    isMemberHead (memberHeadCell index m) index m := by
  have hn := padTo_length h
  have hname : ((memberHeadCell index m).drop 30).take 200 = m.file.name ++ List.replicate (200 - m.file.name.length) 0 :=
    take_drop_checkedCell (by simp) hn
  unfold isMemberHead
  rw [hname]
  unfold memberHeadCell
  refine ⟨checkedLayout_checkedCell (by simp) (by simp [hn]) (by decide) (by decide), ?_⟩
  simp (disch := simp [hn]) only [fieldAt_checkedCell, fieldAt_left, fieldAt_skip]
  simp [fieldAt_alone, hn, fieldAt_cons_zero, fieldAt_cons_succ]
  omega

/-- The tail carries its fields (R17, R150). -/
theorem tailCell_isTail (epoch seq : Word32) (number heads : Nat) (dataCrc : Word32) (last : Bool) :
    isTail (tailCell epoch seq number heads dataCrc last) epoch seq number heads dataCrc last := by
  unfold isTail tailCell
  refine ⟨checkedLayout_checkedCell (by simp) (by simp) (by decide) (by decide), ?_⟩
  simp (disch := simp) only [fieldAt_checkedCell, fieldAt_left, fieldAt_skip]
  simp [fieldAt_alone, fieldAt_cons_zero]
  omega

theorem ManifestEntry.isVoid_eq : ManifestEntry.isVoid = fun x => x.state.isVoid := by
  funext x
  unfold ManifestEntry.isVoid MemberState.isVoid
  cases x.state <;> rfl

/-- The manifest head carries its fields (R18). -/
theorem manifestHeadCell_isManifestHead (epoch seq : Word32) (key : Word64) (mf : Manifest) :
    isManifestHead (manifestHeadCell epoch seq key mf) epoch seq key mf := by
  unfold isManifestHead manifestHeadCell
  refine ⟨checkedLayout_checkedCell (by simp) (by simp) (by decide) (by decide), ?_⟩
  simp (disch := simp) only [fieldAt_checkedCell, fieldAt_left, fieldAt_skip]
  simp [fieldAt_alone, ManifestEntry.isVoid_eq]
  omega

/-- A manifest entry carries its fields (R19). -/
theorem manifestEntryBytes_isManifestEntry (x : ManifestEntry) : isManifestEntry (manifestEntryBytes x) x := by
  have hzero (i : Nat) (h30 : 30 ≤ i) (h64 : i < 64) : (manifestEntryBytes x)[i]? = some 0 :=
    padTo_getElem? (by simpa using h30) h64
  unfold isManifestEntry
  refine ⟨padTo_length (by simp), ?_⟩
  unfold manifestEntryBytes at hzero ⊢
  simp (disch := simp) only [fieldAt_padTo, fieldAt_left, fieldAt_skip]
  simp [fieldAt_alone, fieldAt_cons_zero, fieldAt_cons_succ] at hzero ⊢
  exact ⟨by omega, by omega, by omega, by omega, hzero⟩

theorem memberHeadCell_length (index : Nat) {m : Member} (h : m.file.name.length ≤ 200) :
    (memberHeadCell index m).length = 512 := (memberHeadCell_isMemberHead index h).1.1

theorem packHeadCell_length (station : Station) (epoch seq : Word32) (limit : Nat) (key openTime : Word64) :
    (packHeadCell station epoch seq limit key openTime).length = 512 := (packHeadCell_isPackHead ..).1.1

theorem tailCell_length (epoch seq : Word32) (number heads : Nat) (dataCrc : Word32) (last : Bool) :
    (tailCell epoch seq number heads dataCrc last).length = 512 := (tailCell_isTail ..).1.1

theorem manifestEntryBytes_length (x : ManifestEntry) : (manifestEntryBytes x).length = 64 :=
  (manifestEntryBytes_isManifestEntry x).1

end Sys2Proof.Machine

/-! ## What a commit leaves in each field (R149 to R151) -/

namespace Sys2Proof.Machine

/-- A buffer is read from the pool alone. -/
theorem State.buffer_congr {s t : State} (h : t.spl = s.spl) (i : Fin 64) : t.buffer i = s.buffer i := by
  unfold State.buffer
  rw [h]

/-- Writing a buffer reads and writes the pool alone. -/
theorem State.setBuffer_spl_congr {s t : State} (h : t.spl = s.spl) (i : Fin 64) (x : Buffer) :
    (t.setBuffer i x).spl = (s.setBuffer i x).spl := by
  unfold State.setBuffer
  rw [State.buffer_congr h, h]
  split
  · exact h
  · rfl

theorem State.setBuffer_buffer_other (s : State) {i j : Fin 64} (h : j ≠ i) (x : Buffer) :
    (s.setBuffer i x).buffer j = s.buffer j := by
  by_cases hr : (s.buffer i).state = .retired
  · unfold State.setBuffer; rw [if_pos hr]
  · rw [s.setBuffer_buffer i j x hr, if_neg h]

theorem State.setBuffer_promised (s : State) (i : Fin 64) (x : Buffer) : (s.setBuffer i x).spl.promised = s.spl.promised := by
  unfold State.setBuffer; split <;> rfl

theorem State.count_congr {s t : State} (h : t.counters = s.counters) (c : Ctr) : t.count c = s.count c := by
  unfold State.count
  rw [h]

theorem State.count_bump_eq (s : State) (c d : Ctr) :
    (s.bump c).count d = if d = c then saturatingNext (s.count d) else s.count d := by
  split
  · subst d; exact s.count_bump c
  · exact s.count_bump_other (Ne.symm ‹_›)

/-- The slot a commit of segment k leaves: the records of the heads it wrote, and the next commit point (R147, R149). -/
def Slot.afterCommit (k : Nat) (x : Slot) : Slot :=
  { x with members := x.members.map (Member.afterCommit k), commitPoint := some (k + 1) }

section
variable (s : State) (id : SlotId) (k : Nat) (b : Fin 64)

@[simp] theorem State.commitSegment_lif : (s.commitSegment id k b).lif = s.lif := by simp [State.commitSegment]
@[simp] theorem State.commitSegment_oft : (s.commitSegment id k b).oft = s.oft := by simp [State.commitSegment]
@[simp] theorem State.commitSegment_pvw : (s.commitSegment id k b).pvw = s.pvw := by simp [State.commitSegment]
@[simp] theorem State.commitSegment_sel : (s.commitSegment id k b).sel = s.sel := by simp [State.commitSegment]
@[simp] theorem State.commitSegment_fen : (s.commitSegment id k b).fen = s.fen := by simp [State.commitSegment]
@[simp] theorem State.commitSegment_aru : (s.commitSegment id k b).aru = s.aru := by simp [State.commitSegment]
@[simp] theorem State.commitSegment_mgt : (s.commitSegment id k b).mgt = s.mgt := by simp [State.commitSegment]
@[simp] theorem State.commitSegment_emitted : (s.commitSegment id k b).emitted = s.emitted := by simp [State.commitSegment]
@[simp] theorem State.commitSegment_pending : (s.commitSegment id k b).pending = s.pending := by simp [State.commitSegment]
@[simp] theorem State.commitSegment_wake : (s.commitSegment id k b).wake = s.wake := by simp [State.commitSegment]

theorem State.commitSegment_mem : (s.commitSegment id k b).mem =
    commitContents s.lif.station s.mgt.config.epoch ((s.slot id).afterCommit k) b k s.mem := by
  simp [State.commitSegment, Slot.afterCommit]

theorem State.commitSegment_pkb : (s.commitSegment id k b).pkb = (s.setSlot id ((s.slot id).afterCommit k)).pkb := by
  cases id <;> simp [State.commitSegment, State.setSlot, Slot.afterCommit]

@[simp] theorem State.commitSegment_slot : (s.commitSegment id k b).slot id = (s.slot id).afterCommit k := by
  rw [State.slot_of_pkb (s.commitSegment_pkb id k b), State.setSlot_slot]

@[simp] theorem State.commitSegment_slot_other : (s.commitSegment id k b).slot id.other = s.slot id.other := by
  rw [State.slot_of_pkb (s.commitSegment_pkb id k b), State.setSlot_slot_other]

theorem State.commitSegment_spl : (s.commitSegment id k b).spl = (s.setBuffer b ⟨.ready, some (id, k)⟩).spl := by
  unfold State.commitSegment
  simp only [State.withDrn_spl, State.bump_spl]
  exact State.setBuffer_spl_congr (by simp) _ _

@[simp] theorem State.commitSegment_promised : (s.commitSegment id k b).spl.promised = s.spl.promised := by
  rw [State.commitSegment_spl, State.setBuffer_promised]

theorem State.commitSegment_drn : (s.commitSegment id k b).drn =
    { s.drn with queue := queueSegment ⟨id, (s.slot id).seq, k, b⟩ s.drn.queue } := by
  simp [State.commitSegment]

theorem State.commitSegment_count (c : Ctr) : (s.commitSegment id k b).count c =
    if c = .segmentsCommitted then saturatingNext (s.count c) else s.count c := by
  rw [State.count_congr (s := s.bump .segmentsCommitted) (by simp [State.commitSegment, State.bump, State.count]),
    State.count_bump_eq]

end

/-- A segment joins the drain queue behind every sequence up to its own and ahead of every higher one, and no pack's own order changes (R163). -/
theorem queueSegment_split (x : DrainEntry) (queue : List DrainEntry) :
    ∃ front back, queueSegment x queue = front ++ x :: back ∧ (∀ y ∈ front, y.seq.toNat ≤ x.seq.toNat) ∧
      (∀ y ∈ back, x.seq.toNat < y.seq.toNat) ∧
      ∀ n : Word32, (front ++ back).filter (fun y => y.seq = n) = queue.filter fun y => y.seq = n := by
  refine ⟨queue.filter fun y => y.seq.toNat ≤ x.seq.toNat, queue.filter fun y => x.seq.toNat < y.seq.toNat,
    by simp [queueSegment], fun y hy => by simpa using (List.mem_filter.1 hy).2,
    fun y hy => by simpa using (List.mem_filter.1 hy).2, fun n => ?_⟩
  rw [List.filter_append, List.filter_filter, List.filter_filter]
  by_cases hn : n.toNat ≤ x.seq.toNat
  · have hfront : ∀ y ∈ queue, (decide (y.seq = n) && decide (y.seq.toNat ≤ x.seq.toNat)) = decide (y.seq = n) := by
      intro y _
      by_cases e : y.seq = n <;> simp [e, hn]
    have hback : ∀ y ∈ queue, ¬ (decide (y.seq = n) && decide (x.seq.toNat < y.seq.toNat)) = true := by
      intro y _
      by_cases e : y.seq = n <;> simp [e, hn]
    rw [List.filter_congr hfront, List.filter_eq_nil_iff.2 hback, List.append_nil]
  · have hfront : ∀ y ∈ queue, ¬ (decide (y.seq = n) && decide (y.seq.toNat ≤ x.seq.toNat)) = true := by
      intro y _
      by_cases e : y.seq = n <;> simp [e, Nat.lt_of_not_le hn]
    have hback : ∀ y ∈ queue, (decide (y.seq = n) && decide (x.seq.toNat < y.seq.toNat)) = decide (y.seq = n) := by
      intro y _
      by_cases e : y.seq = n <;> simp [e, Nat.lt_of_not_le hn]
    rw [List.filter_eq_nil_iff.2 hfront, List.filter_congr hback, List.nil_append]

theorem cellAddr_add (b : Fin 64) (c d : Nat) : cellAddr b c + 512 * d = cellAddr b (c + d) := by
  unfold cellAddr; omega

/-- The buffer contents of a commit before its tail (R149, steps 1 to 4). -/
def commitBody (station : Station) (epoch : Word32) (x : Slot) (b : Fin 64) (k : Nat) (mem : Memory) : Memory :=
  let mem := x.members.zipIdx.foldl (fun mem mi => commitExtent b k mi.2 mi.1 mem) mem
  commitManifest b epoch x k (if k = 0 then
    mem.write (cellAddr b 0) (packHeadCell station epoch x.seq x.limit (x.primaryKey.getD 0) (x.openTime.getD 0)) else mem)

theorem commitContents_eq (station : Station) (epoch : Word32) (x : Slot) (b : Fin 64) (k : Nat) (mem : Memory) :
    commitContents station epoch x b k mem = (commitBody station epoch x b k mem).write (cellAddr b 2047)
      (tailCell epoch x.seq k (x.members.countP fun m => seg m.headN = k)
        (crc32 ((commitBody station epoch x b k mem).readRange (cellAddr b 0) (512 * 2047))) (x.isLastSegment k)) := rfl

/-- The cells ahead of the tail are as the body left them. -/
theorem readRange_commitContents {station : Station} {epoch : Word32} {x : Slot} {b : Fin 64} {k : Nat} {mem : Memory}
    {c n : Nat} (h : 512 * c + n ≤ 512 * 2047) :
    (commitContents station epoch x b k mem).readRange (cellAddr b c) n =
      (commitBody station epoch x b k mem).readRange (cellAddr b c) n := by
  rw [commitContents_eq]
  exact Memory.readRange_write_other _ _ _ _ _ (.inl (by unfold cellAddr; omega))

/-- The tail a commit leaves, with the check value of the cells before it as they stand (R17, R150). -/
theorem commitContents_isTail (station : Station) (epoch : Word32) (x : Slot) (b : Fin 64) (k : Nat) (mem : Memory) :
    let m := commitContents station epoch x b k mem
    isTail (m.readRange (cellAddr b 2047) 512) epoch x.seq k (x.members.countP fun m => seg m.headN = k)
      (crc32 (m.readRange (cellAddr b 0) (512 * 2047))) (x.isLastSegment k) := by
  intro m
  have hbody : m.readRange (cellAddr b 0) (512 * 2047) = _ := readRange_commitContents (by decide)
  have htail := Memory.readRange_write_here (commitBody station epoch x b k mem) (cellAddr b 2047) (tailCell epoch x.seq k
    (x.members.countP fun m => seg m.headN = k) (crc32 (m.readRange (cellAddr b 0) (512 * 2047))) (x.isLastSegment k))
  rw [tailCell_length, hbody, ← commitContents_eq] at htail
  rw [hbody, htail]
  exact tailCell_isTail ..

/-- A segment whose tail has the check value of its cells passes the send-time check (R167). -/
theorem sendCheck_of_isTail {m : Memory} {b : Fin 64} {epoch seq : Word32} {number heads : Nat} {last : Bool}
    (h : isTail (m.readRange (cellAddr b 2047) 512) epoch seq number heads (crc32 (m.readRange (cellAddr b 0) (512 * 2047))) last) :
    sendCheck (m.readRange (cellAddr b 0) bufferBytes) = true := by
  obtain ⟨_, _, _, _, _, hcrc, _⟩ := h
  rw [Memory.fieldAt_readRange _ _ _ _ _ (by decide)] at hcrc
  unfold sendCheck
  rw [Memory.readRange_take _ _ _ _ (by decide), Memory.fieldAt_readRange _ _ _ _ _ (by decide), decide_eq_true_eq, ← hcrc,
    ← Nat.add_assoc, cellAddr_add, Nat.zero_add]

/-- Settles O36. -/
theorem commitHandsOver : Obligations.CommitHandsOver := by
  intro s id k b x t
  refine ⟨fun _ => ?_, fun h => ?_, fun i h => ?_, s.commitSegment_slot id k b, s.commitSegment_slot_other id k b, ?_,
    s.commitSegment_count id k b, s.commitSegment_promised id k b, s.commitSegment_lif id k b, s.commitSegment_oft id k b,
    s.commitSegment_pvw id k b, s.commitSegment_sel id k b, s.commitSegment_fen id k b, s.commitSegment_aru id k b,
    s.commitSegment_mgt id k b⟩
  · unfold State.readBuffer
    rw [s.commitSegment_mem id k b]
    exact sendCheck_of_isTail (commitContents_isTail ..)
  · rw [State.buffer_congr (s.commitSegment_spl id k b), s.setBuffer_buffer b b _ h, if_pos rfl]
  · rw [State.buffer_congr (s.commitSegment_spl id k b), s.setBuffer_buffer_other h]
  · obtain ⟨front, back, hq, hrest⟩ := queueSegment_split ⟨id, x.seq, k, b⟩ s.drn.queue
    exact ⟨front, back, by rw [s.commitSegment_drn id k b, hq], hrest⟩

end Sys2Proof.Machine

/-! ## Memory by cells -/

namespace Sys2Proof.Machine

/-- From m to m' no byte has changed but in the cells (buffer, cell) with C. -/
def Memory.onlyCells (C : Fin 64 → Nat → Prop) (m m' : Memory) : Prop :=
  ∀ a, (∀ b c, C b c → a < cellAddr b c ∨ cellAddr b c + 512 ≤ a) → m'.read a = m.read a

theorem Memory.onlyCells.refl (C : Fin 64 → Nat → Prop) (m : Memory) : Memory.onlyCells C m m := fun _ _ => rfl

theorem Memory.onlyCells.trans {C : Fin 64 → Nat → Prop} {m m' m'' : Memory} (h : Memory.onlyCells C m m')
    (h' : Memory.onlyCells C m' m'') : Memory.onlyCells C m m'' := fun a ha => (h' a ha).trans (h a ha)

theorem Memory.onlyCells.mono {C D : Fin 64 → Nat → Prop} {m m' : Memory} (h : Memory.onlyCells C m m')
    (hCD : ∀ b c, C b c → D b c) : Memory.onlyCells D m m' := fun a ha => h a fun b c hc => ha b c (hCD b c hc)

/-- Whole cells written change those cells and no other. -/
theorem Memory.onlyCells_write (m : Memory) (b : Fin 64) (c : Nat) {n : Nat} {bs : List Byte} (hl : bs.length = 512 * n) :
    Memory.onlyCells (fun b' c' => b' = b ∧ c ≤ c' ∧ c' < c + n) m (m.write (cellAddr b c) bs) := by
  intro a ha
  refine Memory.read_write_other _ _ _ _ ?_
  by_contra hin
  have hd := ha b (c + (a - cellAddr b c) / 512) ⟨rfl, by omega, by omega⟩
  rw [← cellAddr_add] at hd
  omega

/-- A cell outside the changed ones reads as before. -/
theorem Memory.onlyCells.readRange {C : Fin 64 → Nat → Prop} {m m' : Memory} (h : Memory.onlyCells C m m')
    (hC : ∀ b c, C b c → c < 2048) {b : Fin 64} {c : Nat} (hc : c < 2048) (hn : ¬ C b c) :
    m'.readRange (cellAddr b c) 512 = m.readRange (cellAddr b c) 512 := by
  unfold Memory.readRange
  refine List.map_congr_left fun i hi => h _ fun b' c' hC' => ?_
  have hi := List.mem_range.1 hi
  have hc' := hC b' c' hC'
  by_contra hin
  obtain ⟨rfl, rfl, -⟩ := cellAddr_add_inj (b := b) (b' := b') (x := i) (x' := cellAddr b c + i - cellAddr b' c') hc hc' hi (by omega) (by omega)
  exact hn hC'

/-- A byte outside the one buffer whose cells change reads as before. -/
theorem Memory.onlyCells.outside {C : Fin 64 → Nat → Prop} {m m' : Memory} (h : Memory.onlyCells C m m') {b : Fin 64}
    (hC : ∀ b' c, C b' c → b' = b ∧ c < 2048) {a : Nat} (ha : a < 1048576 * b.val ∨ 1048576 * (b.val + 1) ≤ a) :
    m'.read a = m.read a := by
  refine h a fun b' c hc => ?_
  obtain ⟨rfl, hc⟩ := hC b' c hc
  unfold cellAddr bufferBytes
  omega

/-- Bytes written are read back, part by part. -/
theorem Memory.readRange_write_part (m : Memory) (a : Nat) {bs : List Byte} {off len : Nat} (h : off + len ≤ bs.length) :
    (m.write a bs).readRange (a + off) len = (bs.drop off).take len := by
  have hall := Memory.readRange_write_here m a bs
  rw [← Memory.readRange_take _ (a + off) (bs.length - off) len (by omega), ← Memory.readRange_drop, hall]

theorem Memory.readRange_write_cell (m : Memory) (a : Nat) {bs : List Byte} (hl : bs.length = 512) :
    (m.write a bs).readRange a 512 = bs := by
  rw [← hl, Memory.readRange_write_here]

/-- The cells of the usable numbers of segment k with P, in buffer b. -/
def segmentCells (b : Fin 64) (k : Nat) (P : Nat → Prop) (b' : Fin 64) (c : Nat) : Prop :=
  b' = b ∧ ∃ n, seg n = k ∧ P n ∧ cellOf n = c

theorem segmentCells_bound {b : Fin 64} {k : Nat} {P : Nat → Prop} (b' : Fin 64) (c : Nat) (h : segmentCells b k P b' c) :
    b' = b ∧ c < 2048 := by
  obtain ⟨hb, n, _, _, rfl⟩ := h
  exact ⟨hb, Nat.lt_succ_of_lt (cellOf_lt n)⟩

theorem segmentCells_iff {b : Fin 64} {k n : Nat} {P : Nat → Prop} (hn : seg n = k) :
    segmentCells b k P b (cellOf n) ↔ P n := by
  refine ⟨fun ⟨_, n', hs, hP, hc⟩ => ?_, fun h => ⟨rfl, n, hn, h, rfl⟩⟩
  rwa [eq_of_seg_cellOf (hn.trans hs.symm) hc.symm]

theorem segmentCells_mono {b : Fin 64} {k : Nat} {P Q : Nat → Prop} (h : ∀ n, seg n = k → P n → Q n) (b' : Fin 64) (c : Nat) :
    segmentCells b k P b' c → segmentCells b k Q b' c :=
  fun ⟨hb, n, hs, hP, hc⟩ => ⟨hb, n, hs, h n hs hP, hc⟩

/-- The cell of a usable number in a buffer. -/
abbrev Memory.cell (m : Memory) (b : Fin 64) (n : Nat) : List Byte := m.readRange (cellAddr b (cellOf n)) 512

theorem Memory.onlyCells.cell {b : Fin 64} {k n : Nat} {P : Nat → Prop} {m m' : Memory}
    (h : Memory.onlyCells (segmentCells b k P) m m') (hn : seg n = k) (hP : ¬ P n) : m'.cell b n = m.cell b n :=
  h.readRange (fun b' c hc => (segmentCells_bound b' c hc).2) (Nat.lt_succ_of_lt (cellOf_lt n)) (mt (segmentCells_iff hn).1 hP)

/-- Cells written over a run of usable numbers of one segment change no other cell. -/
theorem Memory.onlyCells_write_run (m : Memory) (b : Fin 64) {lo n : Nat} {bs : List Byte} (hl : bs.length = 512 * n)
    (h : ∀ d, d < n → seg (lo + d) = seg lo) :
    Memory.onlyCells (segmentCells b (seg lo) fun i => lo ≤ i ∧ i < lo + n) m (m.write (cellAddr b (cellOf lo)) bs) := by
  refine (Memory.onlyCells_write m b (cellOf lo) hl).mono fun b' c ⟨hb, h1, h2⟩ => ⟨hb, lo + (c - cellOf lo), ?_, ?_, ?_⟩
  · exact h _ (by omega)
  · omega
  · rw [cellOf_add_of_seg (h _ (by omega)).symm (by omega)]; omega

theorem Memory.onlyCells_write_one (m : Memory) (b : Fin 64) (n : Nat) {bs : List Byte} (hl : bs.length = 512) :
    Memory.onlyCells (segmentCells b (seg n) (· = n)) m (m.write (cellAddr b (cellOf n)) bs) :=
  (Memory.onlyCells_write_run m b (lo := n) (n := 1) hl fun d hd => by rw [Nat.lt_one_iff.1 hd, Nat.add_zero]).mono
    (segmentCells_mono fun i _ hi => by omega)

/-- What a cell of a written run holds. -/
theorem Memory.cell_write_run (m : Memory) (b : Fin 64) {lo n i : Nat} {bs : List Byte} (hl : bs.length = 512 * n)
    (hs : seg i = seg lo) (hlo : lo ≤ i) (hn : i < lo + n) :
    (m.write (cellAddr b (cellOf lo)) bs).cell b i = (bs.drop (512 * (i - lo))).take 512 := by
  unfold Memory.cell
  rw [cellOf_add_of_seg hs.symm hlo, ← cellAddr_add]
  exact Memory.readRange_write_part _ _ (by omega)

theorem Memory.cell_write_one (m : Memory) (b : Fin 64) (n : Nat) {bs : List Byte} (hl : bs.length = 512) :
    (m.write (cellAddr b (cellOf n)) bs).cell b n = bs := Memory.readRange_write_cell m _ hl

theorem fillPattern_length (n : Nat) : (fillPattern n).length = 512 * n := List.length_replicate

theorem Memory.cell_write_fill (m : Memory) (b : Fin 64) {lo n i : Nat} (hs : seg i = seg lo) (hlo : lo ≤ i) (hn : i < lo + n) :
    (m.write (cellAddr b (cellOf lo)) (fillPattern n)).cell b i = fillPattern 1 := by
  rw [Memory.cell_write_run m b (fillPattern_length n) hs hlo hn]
  simp only [fillPattern, List.drop_replicate, List.take_replicate]
  congr 1
  omega

end Sys2Proof.Machine

/-! ## What a commit writes, cell by cell (R12 to R20, R149, R150) -/

namespace Sys2Proof.Machine

/-! ### Extents -/

/-- Whether a usable number lies in a member's extent (R6). -/
def Member.covers (m : Member) (n : Nat) : Prop := m.headN ≤ n ∧ n < m.headN + m.footprint

section
variable (b : Fin 64) (k i : Nat) {m : Member} (mem : Memory)

/-- The fill of a VOID member's data within a segment: those cells hold the pattern, and no other changes (R12, R149). -/
theorem fillMemberData_onlyCells : Memory.onlyCells (segmentCells b k fun n => m.headN < n ∧ m.covers n) mem
    (fillMemberData b k m mem) := by
  unfold fillMemberData
  dsimp only
  split
  · rename_i h
    have hrun : ∀ d, max (m.headN + 1) (firstUsable k) + d ≤ min (m.headN + m.footprint - 1) (lastUsable k) →
        seg (max (m.headN + 1) (firstUsable k) + d) = k := fun d hd => (seg_eq_iff _ _).2 ⟨by omega, by omega⟩
    have hlo : seg (max (m.headN + 1) (firstUsable k)) = k := hrun 0 h
    refine (Memory.onlyCells_write_run mem b (fillPattern_length _) fun d hd => ?_).mono ?_
    · rw [hrun d (by omega), hlo]
    · rw [hlo]
      exact segmentCells_mono fun n _ hn => ⟨by omega, by omega, by omega⟩
  · exact .refl _ _

theorem fillMemberData_cell {n : Nat} (hn : seg n = k) (h : m.headN < n ∧ m.covers n) :
    (fillMemberData b k m mem).cell b n = fillPattern 1 := by
  obtain ⟨hhead, _, hend⟩ := h
  obtain ⟨hfirst, hlast⟩ := (seg_eq_iff n k).1 hn
  unfold fillMemberData
  dsimp only
  rw [if_pos (by omega)]
  refine Memory.cell_write_fill mem b ?_ (by omega) (by omega)
  exact hn.trans ((seg_eq_iff _ k).2 ⟨by omega, by omega⟩).symm

/-- One extent's part in a commit changes cells of the extent alone (R149). -/
theorem commitExtent_onlyCells (hname : m.file.name.length ≤ 200) (hfoot : 1 ≤ m.footprint) :
    Memory.onlyCells (segmentCells b k m.covers) mem (commitExtent b k i m mem) := by
  have hhead : Memory.onlyCells (segmentCells b k m.covers) mem
      (if seg m.headN = k then mem.write (cellAddr b (cellOf m.headN)) (memberHeadCell i m) else mem) := by
    split
    · rename_i h
      subst h
      refine (Memory.onlyCells_write_one mem b m.headN (memberHeadCell_length i hname)).mono
        (segmentCells_mono fun n _ hn => ?_)
      subst hn
      exact ⟨le_rfl, by omega⟩
    · exact .refl _ _
  unfold commitExtent
  dsimp only
  split
  · exact hhead.trans ((fillMemberData_onlyCells b k _).mono (segmentCells_mono fun n _ hn => hn.2))
  · exact hhead

/-- The head cell of an extent whose head lies in the segment (R15, R149). -/
theorem commitExtent_cell_head (hname : m.file.name.length ≤ 200) (hk : seg m.headN = k) :
    (commitExtent b k i m mem).cell b m.headN = memberHeadCell i m := by
  unfold commitExtent
  dsimp only
  rw [if_pos hk]
  have hhead := Memory.cell_write_one mem b m.headN (memberHeadCell_length i hname)
  split
  · exact ((fillMemberData_onlyCells b k _).cell hk fun h => absurd h.1 (Nat.lt_irrefl _)).trans hhead
  · exact hhead

/-- A data cell of an extent in the segment (R12, R149): as it was, or the fill pattern. -/
theorem commitExtent_cell_data (hname : m.file.name.length ≤ 200) {n : Nat} (hn : seg n = k) (hhead : m.headN < n)
    (hc : m.covers n) : (commitExtent b k i m mem).cell b n = if m.dataPresent then mem.cell b n else fillPattern 1 := by
  have htouch : touches m.headN m.footprint k = true := by
    have h1 := seg_mono (m := m.headN) (n := n) (by omega)
    have h2 := seg_mono (m := n) (n := m.headN + m.footprint - 1) (by have := hc.2; omega)
    simp only [touches, Bool.and_eq_true, decide_eq_true_eq]
    omega
  unfold commitExtent
  dsimp only
  cases hd : m.dataPresent with
  | false =>
    rw [if_pos (by simp [htouch])]
    exact fillMemberData_cell b k _ hn ⟨hhead, hc⟩
  | true =>
    rw [if_neg (by simp), if_pos rfl]
    split
    · rename_i h
      exact (h ▸ Memory.onlyCells_write_one mem b m.headN (memberHeadCell_length i hname)).cell hn (by omega)
    · rfl

end

/-- The members of a pack one behind the other (R6), as a commit takes them: each with its index. -/
def extentsInOrder (l : List (Member × Nat)) : Prop :=
  l.Pairwise (fun x y => x.1.headN + x.1.footprint ≤ y.1.headN) ∧ ∀ x ∈ l, 1 ≤ x.1.footprint ∧ x.1.file.name.length ≤ 200

theorem foldl_commitExtent_onlyCells (b : Fin 64) (k : Nat) {l : List (Member × Nat)} (hl : extentsInOrder l) (mem : Memory) :
    Memory.onlyCells (segmentCells b k fun n => ∃ x ∈ l, x.1.covers n) mem
      (l.foldl (fun mem mi => commitExtent b k mi.2 mi.1 mem) mem) := by
  induction l generalizing mem with
  | nil => exact .refl _ _
  | cons x l ih =>
    obtain ⟨hpair, hgood⟩ := hl
    obtain ⟨hx, hgood⟩ := List.forall_mem_cons.1 hgood
    rw [List.foldl_cons]
    refine .trans ((commitExtent_onlyCells b k x.2 mem hx.2 hx.1).mono (segmentCells_mono fun n _ hn => ?_))
      ((ih ⟨hpair.of_cons, hgood⟩ _).mono (segmentCells_mono fun n _ ⟨y, hy, hn⟩ => ?_))
    · exact ⟨x, List.mem_cons_self, hn⟩
    · exact ⟨y, List.mem_cons_of_mem _ hy, hn⟩

/-- A cell of one extent is what that extent's own part leaves of it. -/
theorem foldl_commitExtent_cell (b : Fin 64) {k n : Nat} (hn : seg n = k) {l : List (Member × Nat)} (hl : extentsInOrder l)
    {x : Member × Nat} (hx : x ∈ l) (hc : x.1.covers n) (mem : Memory) :
    ∃ mem', mem'.cell b n = mem.cell b n ∧
      (l.foldl (fun mem mi => commitExtent b k mi.2 mi.1 mem) mem).cell b n = (commitExtent b k x.2 x.1 mem').cell b n := by
  induction l generalizing mem with
  | nil => cases hx
  | cons y l ih =>
    obtain ⟨hpair, hgood⟩ := hl
    obtain ⟨hy, htail⟩ := List.pairwise_cons.1 hpair
    obtain ⟨⟨hfoot, hname⟩, hrest⟩ := List.forall_mem_cons.1 hgood
    rw [List.foldl_cons]
    rcases List.mem_cons.1 hx with rfl | hx
    · have hlater := foldl_commitExtent_onlyCells b k (l := l) ⟨htail, hrest⟩ (commitExtent b k x.2 x.1 mem)
      refine ⟨mem, rfl, hlater.cell hn ?_⟩
      rintro ⟨z, hz, hcz⟩
      have hlt := hc.2
      have hle := hcz.1
      have := hy z hz
      omega
    · obtain ⟨mem', hm, heq⟩ := ih ⟨htail, hrest⟩ hx (commitExtent b k y.2 y.1 mem)
      refine ⟨mem', hm.trans ((commitExtent_onlyCells b k y.2 mem hname hfoot).cell hn fun hcy => ?_), heq⟩
      have hlt := hcy.2
      have hle := hc.1
      have := hy x hx
      omega

end Sys2Proof.Machine

namespace Sys2Proof.Machine

/-! ### Manifest -/

/-- The 64-byte slot r of a manifest entry cell (R7, R19): the entry, or zeros past the last. -/
theorem take_drop_flatMap_entries (l : List ManifestEntry) (r z : Nat) (h : 64 * (r + 1) ≤ 64 * l.length + z) :
    ((l.flatMap manifestEntryBytes ++ List.replicate z 0).drop (64 * r)).take 64 =
      l[r]?.elim (List.replicate 64 0) manifestEntryBytes := by
  induction l generalizing r with
  | nil =>
    rw [List.length_nil] at h
    rw [List.flatMap_nil, List.nil_append, List.drop_replicate, List.take_replicate, Nat.min_eq_left (by omega)]
    rfl
  | cons x l ih =>
    have hx := manifestEntryBytes_length x
    rw [List.flatMap_cons, List.append_assoc]
    cases r with
    | zero => simp [hx]
    | succ r =>
      rw [List.length_cons] at h
      rw [List.drop_append, List.drop_eq_nil_of_le (by omega), List.nil_append, hx,
        show 64 * (r + 1) - 64 = 64 * r by omega, ih r (by omega)]
      rfl

theorem flatMap_entries_length (l : List ManifestEntry) : (l.flatMap manifestEntryBytes).length = 64 * l.length := by
  induction l with
  | nil => rfl
  | cons x l ih => rw [List.flatMap_cons, List.length_append, ih, manifestEntryBytes_length, List.length_cons]; omega

theorem manifestCell_length (epoch seq : Word32) (key : Word64) (mf : Manifest) (j : Nat) :
    (manifestCell epoch seq key mf j).length = 512 := by
  cases j with
  | zero => exact (manifestHeadCell_isManifestHead epoch seq key mf).1.1
  | succ c => exact padTo_length (by rw [flatMap_entries_length, List.length_take]; omega)

/-- Slot r of entry cell c is entry 8 c + r (R7, R19). -/
theorem manifestEntryCell_slot (entries : List ManifestEntry) (c : Nat) {r : Nat} (hr : r < 8) :
    ((manifestEntryCell entries c).drop (64 * r)).take 64 = entries[8 * c + r]?.elim (List.replicate 64 0) manifestEntryBytes := by
  have hlen := flatMap_entries_length ((entries.drop (8 * c)).take 8)
  unfold manifestEntryCell padTo
  rw [take_drop_flatMap_entries _ _ _ (by omega), List.getElem?_take_of_lt hr, List.getElem?_drop]

/-- The first n cells of a manifest that lie in segment k, as a commit writes them (R149, step 3). -/
def writeManifest (b : Fin 64) (k : Nat) (epoch seq : Word32) (key : Word64) (mf : Manifest) (n : Nat) (mem : Memory) : Memory :=
  (List.range n).foldl (fun mem j => if seg (mf.headN + j) = k then
    mem.write (cellAddr b (cellOf (mf.headN + j))) (manifestCell epoch seq key mf j) else mem) mem

section
variable (b : Fin 64) (k : Nat) (epoch seq : Word32) (key : Word64) (mf : Manifest)

theorem writeManifest_succ (n : Nat) (mem : Memory) : writeManifest b k epoch seq key mf (n + 1) mem =
    if seg (mf.headN + n) = k then (writeManifest b k epoch seq key mf n mem).write (cellAddr b (cellOf (mf.headN + n)))
      (manifestCell epoch seq key mf n) else writeManifest b k epoch seq key mf n mem := by
  unfold writeManifest
  rw [List.range_succ, List.foldl_append]
  rfl

theorem writeManifest_onlyCells (n : Nat) (mem : Memory) :
    Memory.onlyCells (segmentCells b k fun i => mf.headN ≤ i ∧ i < mf.headN + n) mem (writeManifest b k epoch seq key mf n mem) := by
  induction n with
  | zero => exact .refl _ _
  | succ n ih =>
    have ih := ih.mono (segmentCells_mono (Q := fun i => mf.headN ≤ i ∧ i < mf.headN + (n + 1)) fun i _ hi => by omega)
    rw [writeManifest_succ]
    split
    · rename_i h
      subst h
      exact ih.trans ((Memory.onlyCells_write_one _ b _ (manifestCell_length ..)).mono (segmentCells_mono fun i _ hi => by omega))
    · exact ih

theorem writeManifest_cell {n j : Nat} (hj : j < n) (hk : seg (mf.headN + j) = k) (mem : Memory) :
    (writeManifest b k epoch seq key mf n mem).cell b (mf.headN + j) = manifestCell epoch seq key mf j := by
  induction n with
  | zero => cases hj
  | succ n ih =>
    rw [writeManifest_succ]
    rcases Nat.lt_succ_iff_lt_or_eq.1 hj with hj | rfl
    · split
      · rename_i h
        have hother := h ▸ Memory.onlyCells_write_one (writeManifest b k epoch seq key mf n mem) b (mf.headN + n)
          (manifestCell_length epoch seq key mf n)
        exact (hother.cell hk (by omega)).trans (ih hj)
      · exact ih hj
    · rw [if_pos hk]
      exact Memory.cell_write_one _ b _ (manifestCell_length ..)

end

/-- A placed manifest of m members that begins at e and whose last segment is the pack's last (R4, R7). -/
theorem seg_of_isLastSegment {x : Slot} {mf : Manifest} {k n : Nat} (hmf : x.manifest = some mf) (hout : x.laidOut)
    (hlast : x.isLastSegment k = true) (hn : mf.headN + mc mf.entries.length ≤ n) (hle : n ≤ lastUsable k) : seg n = k := by
  obtain ⟨hhead, hlen, hpack⟩ := hout.2.2 mf hmf
  have hk : k + 1 = mf.packLength := by simpa [Slot.isLastSegment, hmf] using hlast
  have hend : seg (x.e + mc x.members.length - 1) = k := by omega
  rw [hlen, hhead] at hn
  rw [seg_eq_iff] at hend ⊢
  omega

/-- The manifest's part in a commit: its cells that lie in the segment, and the fill behind it in the last one (R149, steps 3 and 4). -/
theorem commitManifest_eq {x : Slot} {mf : Manifest} (hmf : x.manifest = some mf) (b : Fin 64) (epoch : Word32) (k : Nat) (mem : Memory) :
    commitManifest b epoch x k mem =
      if x.isLastSegment k && mf.headN + mc mf.entries.length ≤ lastUsable k then
        (writeManifest b k epoch x.seq (x.primaryKey.getD 0) mf (mc mf.entries.length) mem).write
          (cellAddr b (cellOf (mf.headN + mc mf.entries.length)))
          (fillPattern (lastUsable k + 1 - (mf.headN + mc mf.entries.length)))
      else writeManifest b k epoch x.seq (x.primaryKey.getD 0) mf (mc mf.entries.length) mem := by
  unfold commitManifest
  rw [hmf]
  rfl

theorem commitManifest_onlyCells {x : Slot} (hout : x.laidOut) (b : Fin 64) (epoch : Word32) (k : Nat) (mem : Memory) :
    Memory.onlyCells (segmentCells b k fun n => x.e ≤ n) mem (commitManifest b epoch x k mem) := by
  cases hmf : x.manifest with
  | none =>
    unfold commitManifest
    rw [hmf]
    exact .refl _ _
  | some mf =>
    have hhead := (hout.2.2 mf hmf).1
    have hcells := (writeManifest_onlyCells b k epoch x.seq (x.primaryKey.getD 0) mf (mc mf.entries.length) mem).mono
      (segmentCells_mono (Q := fun n => x.e ≤ n) fun n _ hn => by omega)
    rw [commitManifest_eq hmf]
    split
    · rename_i h
      obtain ⟨hlast, hle⟩ : x.isLastSegment k = true ∧ mf.headN + mc mf.entries.length ≤ lastUsable k := by simpa using h
      have hk := seg_of_isLastSegment hmf hout hlast le_rfl hle
      refine hcells.trans ((hk ▸ Memory.onlyCells_write_run _ b (fillPattern_length _) fun d hd => ?_).mono
        (segmentCells_mono fun n _ hn => by omega))
      rw [hk]
      exact seg_of_isLastSegment hmf hout hlast (by omega) (by omega)
    · exact hcells

end Sys2Proof.Machine

namespace Sys2Proof.Machine

/-! ### The commit -/

theorem Member.afterCommit_eq (k : Nat) (m : Member) : Member.afterCommit k m =
    { m with dataPresent := if seg m.headN = k then decide (m.state = .done) else m.dataPresent } := by
  unfold Member.afterCommit
  split <;> rfl

@[simp] theorem Member.afterCommit_headN (k : Nat) (m : Member) : (m.afterCommit k).headN = m.headN := by
  rw [Member.afterCommit_eq]

@[simp] theorem Member.afterCommit_footprint (k : Nat) (m : Member) : (m.afterCommit k).footprint = m.footprint := by
  rw [Member.afterCommit_eq]

@[simp] theorem Member.afterCommit_file (k : Nat) (m : Member) : (m.afterCommit k).file = m.file := by
  rw [Member.afterCommit_eq]

theorem Member.covers_afterCommit (k : Nat) (m : Member) (n : Nat) : (m.afterCommit k).covers n ↔ m.covers n := by
  simp [Member.covers]

theorem Slot.laidOut_afterCommit {x : Slot} (h : x.laidOut) (k : Nat) : (x.afterCommit k).laidOut := by
  obtain ⟨hpair, hgood, hman⟩ := h
  refine ⟨?_, ?_, ?_⟩
  · simpa [Slot.afterCommit, List.pairwise_map] using hpair
  · simpa [Slot.afterCommit] using hgood
  · simpa [Slot.afterCommit] using hman

theorem extentsInOrder_of_laidOut {x : Slot} (h : x.laidOut) : extentsInOrder x.members.zipIdx := by
  obtain ⟨hpair, hgood, -⟩ := h
  refine ⟨?_, fun y hy => ?_⟩
  · have hfst : x.members.zipIdx.map Prod.fst = x.members := by simp
    rw [← hfst, List.pairwise_map] at hpair
    exact hpair
  · obtain ⟨h1, -, h2⟩ := hgood y.1 (List.fst_mem_of_mem_zipIdx hy)
    exact ⟨h1, h2⟩

section
variable {x : Slot} (hout : x.laidOut) (station : Station) (epoch : Word32) (b : Fin 64) (k : Nat) (mem : Memory)
include hout

/-- Below E a commit leaves the cells as the extents' parts leave them. -/
theorem commitBody_cell_below {n : Nat} (hn : seg n = k) (he : n < x.e) :
    (commitBody station epoch x b k mem).cell b n =
      (x.members.zipIdx.foldl (fun mem mi => commitExtent b k mi.2 mi.1 mem) mem).cell b n := by
  unfold commitBody
  dsimp only
  refine ((commitManifest_onlyCells hout b epoch k _).cell hn (by omega)).trans ?_
  split
  · rename_i h
    have hpos : cellOf n ≠ 0 := by unfold cellOf seg at *; omega
    refine (Memory.onlyCells_write _ b 0 (n := 1) (packHeadCell_length ..)).readRange (fun _ _ hc => by omega)
      (Nat.lt_succ_of_lt (cellOf_lt n)) fun hc => ?_
    omega
  · rfl

/-- Nothing outside the segment's buffer changes. -/
theorem commitContents_outside {a : Nat} (ha : a < 1048576 * b.val ∨ 1048576 * (b.val + 1) ≤ a) :
    (commitContents station epoch x b k mem).read a = mem.read a := by
  have hrun : ∀ (C : Fin 64 → Nat → Prop) {m m' : Memory}, Memory.onlyCells C m m' → (∀ b' c, C b' c → b' = b ∧ c < 2048) →
    m'.read a = m.read a := fun C m m' h hC => h.outside hC ha
  rw [commitContents_eq, hrun _ (Memory.onlyCells_write _ b 2047 (n := 1) (tailCell_length ..)) fun b' c hc => ⟨hc.1, by omega⟩]
  unfold commitBody
  dsimp only
  rw [hrun _ (commitManifest_onlyCells hout b epoch k _) segmentCells_bound]
  have hext := hrun _ (foldl_commitExtent_onlyCells b k (extentsInOrder_of_laidOut hout) mem) segmentCells_bound
  split
  · rw [hrun _ (Memory.onlyCells_write _ b 0 (n := 1) (packHeadCell_length ..)) fun b' c hc => ⟨hc.1, by omega⟩, hext]
  · exact hext

/-- The pack head in cell 0 of segment 0 (R14). -/
theorem commitBody_packHead : (commitBody station epoch x b 0 mem).readRange (cellAddr b 0) 512 =
    packHeadCell station epoch x.seq x.limit (x.primaryKey.getD 0) (x.openTime.getD 0) := by
  unfold commitBody
  dsimp only
  rw [if_pos rfl]
  refine ((commitManifest_onlyCells hout b epoch 0 _).readRange (fun b' c hc => (segmentCells_bound b' c hc).2) (by decide) ?_).trans ?_
  · rintro ⟨-, n, hn, -, hc⟩
    unfold cellOf seg at *; omega
  · exact Memory.readRange_write_cell _ _ (packHeadCell_length ..)

/-- A cell of an extent is what the extent's own part leaves of it. -/
theorem commitBody_cell_extent {i n : Nat} {m : Member} (hm : x.members[i]? = some m) (hn : seg n = k) (hc : m.covers n) :
    ∃ mem', mem'.cell b n = mem.cell b n ∧
      (commitBody station epoch x b k mem).cell b n = (commitExtent b k i m mem').cell b n := by
  have he : n < x.e := Nat.lt_of_lt_of_le hc.2 (hout.2.1 m (List.mem_of_getElem? hm)).2.1
  rw [commitBody_cell_below hout station epoch b k mem hn he]
  exact foldl_commitExtent_cell b hn (extentsInOrder_of_laidOut hout) (List.mk_mem_zipIdx_iff_getElem?.2 hm) hc mem

/-- The manifest's cells (R18, R19). -/
theorem commitBody_cell_manifest {mf : Manifest} (hmf : x.manifest = some mf) {j : Nat} (hj : j < mc mf.entries.length)
    (hk : seg (mf.headN + j) = k) : (commitBody station epoch x b k mem).cell b (mf.headN + j) =
      manifestCell epoch x.seq (x.primaryKey.getD 0) mf j := by
  unfold commitBody
  dsimp only
  have hcell (mem : Memory) := writeManifest_cell b k epoch x.seq (x.primaryKey.getD 0) mf hj hk mem
  rw [commitManifest_eq hmf]
  split
  · rename_i h
    obtain ⟨hlast, hle⟩ : x.isLastSegment k = true ∧ mf.headN + mc mf.entries.length ≤ lastUsable k := by simpa using h
    have hlo := seg_of_isLastSegment hmf hout hlast le_rfl hle
    refine (Memory.onlyCells.cell (hlo ▸ Memory.onlyCells_write_run _ b (fillPattern_length _) fun d hd => ?_) hk
      (by omega)).trans (hcell _)
    rw [hlo]
    exact seg_of_isLastSegment hmf hout hlast (by omega) (by omega)
  · exact hcell _

/-- The cells behind the manifest in the last segment (R12, R149, step 4). -/
theorem commitBody_cell_behind {mf : Manifest} (hmf : x.manifest = some mf) (hlast : x.isLastSegment k = true) {n : Nat}
    (hle : mf.headN + mc mf.entries.length ≤ n) (hn : seg n = k) :
    (commitBody station epoch x b k mem).cell b n = fillPattern 1 := by
  obtain ⟨-, hn2⟩ := (seg_eq_iff n k).1 hn
  unfold commitBody
  dsimp only
  rw [commitManifest_eq hmf, if_pos (by simp [hlast]; omega)]
  exact Memory.cell_write_fill _ b (hn.trans (seg_of_isLastSegment hmf hout hlast le_rfl (by omega)).symm) hle (by omega)

end

theorem memberHeadCell_afterCommit (index k : Nat) (m : Member) :
    memberHeadCell index (m.afterCommit k) = memberHeadCell index m := by
  rw [Member.afterCommit_eq]; rfl

theorem countP_afterCommit (k : Nat) (ms : List Member) :
    (ms.map (Member.afterCommit k)).countP (fun m => seg m.headN = k) = ms.countP fun m => seg m.headN = k := by
  rw [List.countP_map]
  refine List.countP_congr fun m _ => ?_
  simp

theorem State.commitSegment_cell (s : State) (id : SlotId) (k : Nat) (b : Fin 64) (n : Nat) :
    (s.commitSegment id k b).mem.cell b n =
      (commitBody s.lif.station s.mgt.config.epoch ((s.slot id).afterCommit k) b k s.mem).cell b n := by
  rw [s.commitSegment_mem id k b]
  exact readRange_commitContents (by have := cellOf_lt n; omega)

/-- A cell of an extent after a commit (R15, R149): its head, or, of a data cell, what was there or the fill pattern, by the state at the
commit of the head. -/
theorem State.commitSegment_cell_extent (s : State) (id : SlotId) (k : Nat) (b : Fin 64) (hout : (s.slot id).laidOut) {i : Nat} {m : Member}
    (hm : (s.slot id).members[i]? = some m) {n : Nat} (hn : seg n = k) (hc : m.covers n) :
    (s.commitSegment id k b).mem.cell b n =
      if n = m.headN then memberHeadCell i m
      else if (if seg m.headN = k then m.state = .done else m.dataPresent = true) then s.mem.cell b n else fillPattern 1 := by
  obtain ⟨-, -, hname⟩ := hout.2.1 m (List.mem_of_getElem? hm)
  have hm' : ((s.slot id).afterCommit k).members[i]? = some (m.afterCommit k) := by simp [Slot.afterCommit, hm]
  obtain ⟨mem, hmem, hcell⟩ := commitBody_cell_extent (Slot.laidOut_afterCommit hout k) s.lif.station s.mgt.config.epoch b k s.mem hm' hn
    ((m.covers_afterCommit k n).2 hc)
  rw [s.commitSegment_cell id k b n, hcell]
  split
  · subst n
    rw [← m.afterCommit_headN k] at hn ⊢
    rw [commitExtent_cell_head b k i mem (by rwa [m.afterCommit_file k]) hn, memberHeadCell_afterCommit]
  · have hlt : m.headN < n := by have := hc.1; omega
    rw [commitExtent_cell_data b k i mem (by rwa [m.afterCommit_file k]) hn (by rwa [m.afterCommit_headN k])
      ((m.covers_afterCommit k n).2 hc), hmem, Member.afterCommit_eq]
    by_cases h : seg m.headN = k <;> simp [h]

/-- Settles O35: each cell is written by the one part of the commit that covers it, and no later part meets it. -/
theorem commitWrites : Obligations.CommitWrites := by
  intro s id k b key time x epoch t before cell fill lastHere hout hkey htime
  have hlay := Slot.laidOut_afterCommit hout k
  have hcell (n : Nat) : cell n = (commitBody s.lif.station epoch (x.afterCommit k) b k s.mem).cell b n :=
    s.commitSegment_cell id k b n
  have hlastHere : lastHere = (x.afterCommit k).isLastSegment k := rfl
  have hprimary : (x.afterCommit k).primaryKey.getD 0 = key := by simp [Slot.afterCommit, hkey]
  have hopen : (x.afterCommit k).openTime.getD 0 = time := by simp [Slot.afterCommit, htime]
  refine ⟨fun hk => ?_, fun i m hm _ => ?_, fun mf j hmf hj hk => ?_, fun n hlast hle hn => ?_, ?_, fun a ha => ?_⟩
  · subst hk
    rw [s.commitSegment_mem id 0 b, readRange_commitContents (by decide), commitBody_packHead hlay, hprimary, hopen]
    exact packHeadCell_isPackHead ..
  · obtain ⟨hfoot, -, hname⟩ := hout.2.1 m (List.mem_of_getElem? hm)
    refine ⟨fun hk => ?_, fun n h1 h2 hn => ?_⟩
    · have hhead : cell m.headN = _ := s.commitSegment_cell_extent id k b hout hm hk ⟨le_rfl, by omega⟩
      rw [hhead, if_pos rfl]
      exact memberHeadCell_isMemberHead i hname
    · have hdata := s.commitSegment_cell_extent id k b hout hm hn ⟨by omega, h2⟩
      rwa [if_neg (by omega)] at hdata
  · have hhead : mf.headN = x.e := (hout.2.2 mf hmf).1
    have hman := commitBody_cell_manifest hlay s.lif.station epoch b k s.mem hmf hj (by rwa [hhead])
    rw [hhead, hprimary, ← hcell] at hman
    refine ⟨fun h0 => ?_, fun c r hjc hr => ?_⟩
    · subst h0
      exact hman ▸ manifestHeadCell_isManifestHead ..
    · subst hjc
      have hslot := manifestEntryCell_slot mf.entries c hr
      rw [hman]
      refine ⟨fun y hy => ?_, fun hnone => ?_⟩
      · rw [hy] at hslot
        exact hslot ▸ manifestEntryBytes_isManifestEntry y
      · rw [hnone] at hslot
        exact hslot
  · obtain ⟨mf, hmf⟩ : ∃ mf, x.manifest = some mf := by
      cases h : x.manifest with
      | none => simp [lastHere, h] at hlast
      | some mf => exact ⟨mf, rfl⟩
    obtain ⟨hhead, hlen, -⟩ := hout.2.2 mf hmf
    rw [hcell]
    exact commitBody_cell_behind hlay _ _ _ _ _ hmf (hlastHere ▸ hlast) (by rw [hhead, hlen]; exact hle) hn
  · have htail := commitContents_isTail s.lif.station epoch (x.afterCommit k) b k s.mem
    rw [← s.commitSegment_mem id k b] at htail
    have hheads := countP_afterCommit k x.members
    exact hheads ▸ htail
  · rw [s.commitSegment_mem id k b]
    exact commitContents_outside hlay _ _ _ _ _ ha

end Sys2Proof.Machine

/-! ## Copies (R184) -/

namespace Sys2Proof.Machine

/-! ### Cells of a slot's extents -/

@[simp] theorem State.withMem_bufferOf (s : State) (m : Memory) (id : SlotId) (k : Nat) :
    (s.withMem m).bufferOf id k = s.bufferOf id k := rfl

@[simp] theorem State.withMem_member? (s : State) (m : Memory) (r : MemberRef) : (s.withMem m).member? r = s.member? r := by
  cases r with
  | mk id i => cases id <;> rfl

/-- The cells, in the buffers bound to a slot, of the usable numbers with P. -/
def State.slotCells (s : State) (id : SlotId) (P : Nat → Prop) (b : Fin 64) (c : Nat) : Prop :=
  ∃ n, P n ∧ s.bufferOf id (seg n) = some b ∧ cellOf n = c

section
variable {s : State} {id : SlotId} {P Q : Nat → Prop}

theorem State.slotCells_lt (b : Fin 64) (c : Nat) (h : s.slotCells id P b c) : c < 2048 := by
  obtain ⟨n, -, -, rfl⟩ := h
  exact Nat.lt_succ_of_lt (cellOf_lt n)

theorem State.slotCells_mono (h : ∀ n, P n → Q n) (b : Fin 64) (c : Nat) : s.slotCells id P b c → s.slotCells id Q b c :=
  fun ⟨n, hP, hb, hc⟩ => ⟨n, h n hP, hb, hc⟩

theorem State.slotCells_of_bufferOf {n : Nat} {b : Fin 64} (hb : s.bufferOf id (seg n) = some b)
    (h : s.slotCells id P b (cellOf n)) : P n := by
  obtain ⟨n', hP, hb', hc⟩ := h
  rwa [eq_of_seg_cellOf (State.bufferOf_inj hb hb').2 hc.symm]

/-- A slot's cells are in no other slot's buffers. -/
theorem State.slotCells_other {id' : SlotId} {k c : Nat} {b : Fin 64} (hne : id' ≠ id) (hb : s.bufferOf id' k = some b) :
    ¬ s.slotCells id P b c := fun ⟨_, _, hb', _⟩ => hne (State.bufferOf_inj hb hb').1

theorem State.readCell_eq {n : Nat} {b : Fin 64} (hb : s.bufferOf id (seg n) = some b) : s.readCell id n = s.mem.cell b n := by
  unfold State.readCell
  rw [hb]

theorem State.readCell_length {n : Nat} (hb : (s.bufferOf id (seg n)).isSome = true) : (s.readCell id n).length = 512 := by
  obtain ⟨b, hb⟩ := Option.isSome_iff_exists.1 hb
  rw [State.readCell_eq hb, Memory.readRange_length]

/-- A cell written changes that cell and nothing else of the state. -/
theorem State.writeCell_spec (s : State) (id : SlotId) (n : Nat) {bs : List Byte} (hl : bs.length = 512) :
    ∃ mem, s.writeCell id n bs = s.withMem mem ∧ Memory.onlyCells (s.slotCells id (· = n)) s.mem mem ∧
      ((s.bufferOf id (seg n)).isSome = true → (s.withMem mem).readCell id n = bs) := by
  cases hb : s.bufferOf id (seg n) with
  | none => exact ⟨s.mem, by simp [State.writeCell, hb, State.withMem], .refl _ _, fun h => by simp at h⟩
  | some b =>
    refine ⟨s.mem.write (cellAddr b (cellOf n)) bs, by simp [State.writeCell, hb], ?_, fun _ => ?_⟩
    · refine (Memory.onlyCells_write s.mem b (cellOf n) (n := 1) hl).mono fun b' c hc => ⟨n, rfl, ?_, by omega⟩
      rw [hb, hc.1]
    · rw [State.readCell_eq (s := s.withMem (s.mem.write (cellAddr b (cellOf n)) bs)) hb]
      exact Memory.readRange_write_cell _ _ hl

/-- A cell that is none of the changed ones is read as before. -/
theorem State.readCell_of_onlyCells {C : Fin 64 → Nat → Prop} {mem : Memory} {n : Nat} (h : Memory.onlyCells C s.mem mem)
    (hC : ∀ b c, C b c → c < 2048) (hn : ∀ b, s.bufferOf id (seg n) = some b → ¬ C b (cellOf n)) :
    (s.withMem mem).readCell id n = s.readCell id n := by
  cases hb : s.bufferOf id (seg n) with
  | none => simp [State.readCell, hb]
  | some b =>
    rw [State.readCell_eq hb, State.readCell_eq (s := s.withMem mem) hb]
    exact h.readRange hC (Nat.lt_succ_of_lt (cellOf_lt n)) (hn b hb)

end

/-! ### The bytes a copy moves -/

/-- The first n data cells of a copy moved, one by one (R184). -/
def State.moveData (c : Copy) (s : State) (n : Nat) : State :=
  (List.range n).foldl (fun s i =>
    s.writeCell c.target.slot (c.targetHead + 1 + i) (s.readCell c.source (c.sourceHead + 1 + i))) s

theorem State.moveData_succ (c : Copy) (s : State) (n : Nat) : s.moveData c (n + 1) =
    (s.moveData c n).writeCell c.target.slot (c.targetHead + 1 + n)
      ((s.moveData c n).readCell c.source (c.sourceHead + 1 + n)) := by
  unfold State.moveData
  rw [List.range_succ, List.foldl_append]
  rfl

theorem State.moveCopy_eq (s : State) (c : Copy) : s.moveCopy c =
    ((s.moveData c (c.footprint - 1)).member? c.target).elim (s.moveData c (c.footprint - 1)) fun m =>
      (s.moveData c (c.footprint - 1)).writeCell c.target.slot c.targetHead (memberHeadCell c.target.index m) := by
  unfold State.moveCopy
  change (match (s.moveData c (c.footprint - 1)).member? c.target with | some m => _ | none => _) = _
  cases (s.moveData c (c.footprint - 1)).member? c.target <;> rfl

/-- The data cells moved: each holds what the source's held, and nothing else has changed. -/
theorem State.moveData_spec {c : Copy} {s : State} {n : Nat} (hne : c.source ≠ c.target.slot)
    (htgt : ∀ i, i < n → (s.bufferOf c.target.slot (seg (c.targetHead + 1 + i))).isSome = true)
    (hsrc : ∀ i, i < n → (s.bufferOf c.source (seg (c.sourceHead + 1 + i))).isSome = true) :
    ∃ mem, s.moveData c n = s.withMem mem ∧
      Memory.onlyCells (s.slotCells c.target.slot fun j => c.targetHead < j ∧ j ≤ c.targetHead + n) s.mem mem ∧
      ∀ i, i < n → (s.withMem mem).readCell c.target.slot (c.targetHead + 1 + i) = s.readCell c.source (c.sourceHead + 1 + i) := by
  induction n with
  | zero => exact ⟨s.mem, rfl, .refl _ _, fun i hi => absurd hi (Nat.not_lt_zero i)⟩
  | succ n ih =>
    obtain ⟨mem, heq, honly, hmoved⟩ := ih (fun i hi => htgt i (by omega)) (fun i hi => hsrc i (by omega))
    have hread : (s.withMem mem).readCell c.source (c.sourceHead + 1 + n) = s.readCell c.source (c.sourceHead + 1 + n) :=
      State.readCell_of_onlyCells honly State.slotCells_lt fun b hb => State.slotCells_other hne hb
    obtain ⟨mem', heq', honly', hhere⟩ := (s.withMem mem).writeCell_spec c.target.slot (c.targetHead + 1 + n)
      (State.readCell_length (hsrc n (by omega)))
    refine ⟨mem', ?_, ?_, fun i hi => ?_⟩
    · rw [State.moveData_succ, heq, hread, heq']
      rfl
    · exact (honly.mono (State.slotCells_mono fun j hj => ⟨hj.1, by omega⟩)).trans
        (honly'.mono (State.slotCells_mono (s := s) fun j hj => by omega))
    · rcases Nat.lt_succ_iff_lt_or_eq.1 hi with hi | rfl
      · refine Eq.trans ?_ (hmoved i hi)
        exact State.readCell_of_onlyCells (s := s.withMem mem) honly' State.slotCells_lt fun b hb h => by
          have := State.slotCells_of_bufferOf hb h
          omega
      · exact hhere (htgt i (by omega))

/-- What the move of a copy leaves: the source's data and the target's head in the target extent, and nothing else changed (R184). -/
theorem State.moveCopy_spec {c : Copy} {m : Member} {s : State} (hm : s.member? c.target = some m) (hne : c.source ≠ c.target.slot)
    (hfoot : 1 ≤ c.footprint) (hname : m.file.name.length ≤ 200)
    (htgt : ∀ i, i < c.footprint → (s.bufferOf c.target.slot (seg (c.targetHead + i))).isSome = true)
    (hsrc : ∀ i, i < c.footprint → (s.bufferOf c.source (seg (c.sourceHead + i))).isSome = true) :
    ∃ mem, s.moveCopy c = s.withMem mem ∧
      Memory.onlyCells (s.slotCells c.target.slot fun j => c.targetHead ≤ j ∧ j < c.targetHead + c.footprint) s.mem mem ∧
      (∀ i, 1 ≤ i → i < c.footprint →
        (s.withMem mem).readCell c.target.slot (c.targetHead + i) = s.readCell c.source (c.sourceHead + i)) ∧
      (s.withMem mem).readCell c.target.slot c.targetHead = memberHeadCell c.target.index m := by
  obtain ⟨mem, heq, honly, hmoved⟩ := State.moveData_spec (n := c.footprint - 1) hne
    (fun i hi => by rw [Nat.add_assoc]; exact htgt _ (by omega)) (fun i hi => by rw [Nat.add_assoc]; exact hsrc _ (by omega))
  obtain ⟨mem', heq', honly', hhere⟩ := (s.withMem mem).writeCell_spec c.target.slot c.targetHead
    (memberHeadCell_length c.target.index hname)
  refine ⟨mem', ?_, ?_, fun i h1 hi => ?_, hhere (htgt 0 hfoot)⟩
  · rw [State.moveCopy_eq, heq, State.withMem_member?, hm, Option.elim_some, heq']
    rfl
  · exact (honly.mono (State.slotCells_mono fun j hj => by omega)).trans
      (honly'.mono (State.slotCells_mono (s := s) fun j hj => by omega))
  · have hdata := hmoved (i - 1) (by omega)
    rw [Nat.add_assoc, Nat.add_assoc, Nat.add_sub_cancel' h1] at hdata
    refine Eq.trans ?_ hdata
    exact State.readCell_of_onlyCells (s := s.withMem mem) honly' State.slotCells_lt fun b hb h => by
      have := State.slotCells_of_bufferOf hb h
      omega

end Sys2Proof.Machine

/-! ## When the close and commit tests change nothing -/

namespace Sys2Proof.Machine

/-- Only a CLOSING slot is tested for its close (R111). -/
theorem State.testClose_of_ne_closing {s : State} {id : SlotId} (h : (s.slot id).state ≠ .closing) : s.testClose id = s := by
  unfold State.testClose
  rw [if_neg (by simp [h])]

/-- A segment still being filled is not committable (R147). -/
theorem State.committable_of_segmentOpen {s : State} {id : SlotId} (h : (s.slot id).segmentOpen) : s.committable id = none := by
  obtain ⟨hman, hpoint⟩ := h
  unfold State.committable
  cases hk : (s.slot id).commitPoint with
  | none => rfl
  | some k =>
    rw [hk, Option.all_some, decide_eq_true_eq] at hpoint
    simp [Slot.segmentReady, hman]
    omega

theorem State.commitRun_of_none {s : State} {id : SlotId} (h : s.committable id = none) (n : Nat) : s.commitRun id n = s := by
  cases n <;> simp [State.commitRun, h]

/-- A settling in an OPEN pack whose segment at the commit point is still being filled brings no close and no commit (R122, R148). -/
theorem State.memberSettled_of_open {s : State} {id : SlotId} (ho : (s.slot id).state = .opened) (h : (s.slot id).segmentOpen) :
    s.memberSettled id = s := by
  unfold State.memberSettled State.testCommit
  rw [State.testClose_of_ne_closing (by rw [ho]; decide), State.commitRun_of_none (State.committable_of_segmentOpen h)]

/-! ## The HELD buffers a copy leaves -/

/-- Whether a buffer is HELD with no copy left that needs it (R152, R184). -/
def State.idleHeld (s : State) (i : Fin 64) : Bool := (s.buffer i).state = .held && s.copyCount i = 0

/-- A buffer is idle by its own contents and the copies queued. -/
theorem State.idleHeld_congr {s t : State} {i : Fin 64} (hb : t.buffer i = s.buffer i) (ha : t.aru = s.aru) :
    t.idleHeld i = s.idleHeld i := by
  unfold State.idleHeld State.copyCount
  rw [hb, ha]

theorem State.freeBuffer_buffer {s : State} {i : Fin 64} (h : (s.buffer i).state ≠ .retired) (j : Fin 64) :
    (s.freeBuffer i).buffer j = if j = i then ⟨.free, none⟩ else s.buffer j :=
  s.setBuffer_buffer i j _ h

theorem State.freeBuffer_eq {s : State} {i : Fin 64} (h : (s.buffer i).state ≠ .retired) : ∃ bufs : Vector Buffer 64,
    s.freeBuffer i = (s.withSpl { s.spl with buffers := bufs }).withWake true := by
  unfold State.freeBuffer State.setBuffer
  rw [if_neg h]
  exact ⟨_, rfl⟩

/-- The pass over some buffers frees the idle ones among them, and changes nothing else but the wake mark. -/
theorem State.freeIdleHeld_fold (s : State) (l : List (Fin 64)) : ∃ (bufs : Vector Buffer 64) (w : Bool),
    l.foldl (fun s i => if s.idleHeld i then s.freeBuffer i else s) s =
      (s.withSpl { s.spl with buffers := bufs }).withWake w ∧
    ∀ i : Fin 64, bufs[i] = if i ∈ l ∧ s.idleHeld i = true then ⟨.free, none⟩ else s.buffer i := by
  induction l generalizing s with
  | nil => exact ⟨s.spl.buffers, s.wake, rfl, fun i => by simp [State.buffer]⟩
  | cons j l ih =>
    rw [List.foldl_cons]
    by_cases hj : s.idleHeld j = true
    · have hheld : (s.buffer j).state ≠ .retired := by
        have : (s.buffer j).state = .held := by
          unfold State.idleHeld at hj
          simpa using (Bool.and_eq_true_iff.1 hj).1
        rw [this]; decide
      obtain ⟨bufs, w, heq, hbufs⟩ := ih (s.freeBuffer j)
      obtain ⟨bufs', heq'⟩ := State.freeBuffer_eq hheld
      refine ⟨bufs, w, ?_, fun i => ?_⟩
      · rw [if_pos hj, heq, heq']
        rfl
      · rw [hbufs, State.freeBuffer_buffer hheld]
        by_cases e : i = j
        · subst e
          simp [hj]
        · rw [State.idleHeld_congr (s := s) (by rw [State.freeBuffer_buffer hheld, if_neg e]) (by simp [State.freeBuffer])]
          simp [e]
    · obtain ⟨bufs, w, heq, hbufs⟩ := ih s
      refine ⟨bufs, w, ?_, fun i => ?_⟩
      · rw [if_neg hj, heq]
      · rw [hbufs]
        by_cases e : i = j
        · subst e; simp [hj]
        · simp [e]

theorem State.freeIdleHeld_eq (s : State) : ∃ w : Bool, s.freeIdleHeld =
    (s.withSpl { s.spl with buffers := Vector.ofFn fun i => if s.idleHeld i = true then ⟨.free, none⟩ else s.buffer i }).withWake w := by
  obtain ⟨bufs, w, heq, hbufs⟩ := s.freeIdleHeld_fold (List.finRange 64)
  have hv : bufs = Vector.ofFn fun i => if s.idleHeld i = true then ⟨.free, none⟩ else s.buffer i := by
    ext1 i hi
    rw [Vector.getElem_ofFn]
    simpa using hbufs ⟨i, hi⟩
  rw [← hv]
  exact ⟨w, heq⟩

/-- A front copy with data behind it does not complete by itself (R184). -/
theorem State.startCopies_of_data {s : State} {d : Copy} {rest : List Copy} (h : s.aru.copies = d :: rest) (hd : d.footprint ≠ 1) :
    s.startCopies = s := by
  unfold State.startCopies
  rw [h, List.length_cons]
  unfold State.runEmptyCopies
  simp only [h, if_neg hd]

theorem State.afterCopy_of_copies {s : State} (h : s.aru.copies ≠ []) : s.afterCopy = s.freeIdleHeld := by
  obtain ⟨w, heq⟩ := s.freeIdleHeld_eq
  unfold State.afterCopy
  rw [heq]
  exact if_neg (by simpa using h)

end Sys2Proof.Machine

namespace Sys2Proof.Machine

/-! ## COPY_COMPLETION (R184) -/

theorem State.writeCell_mem_only (s : State) (id : SlotId) (n : Nat) (bs : List Byte) :
    ∃ mem, s.writeCell id n bs = s.withMem mem := by
  unfold State.writeCell
  split
  · exact ⟨_, rfl⟩
  · exact ⟨s.mem, rfl⟩

/-- The move of a copy changes the memory alone. -/
theorem State.moveCopy_mem_only (s : State) (c : Copy) : ∃ mem, s.moveCopy c = s.withMem mem := by
  have hdata : ∀ n, ∃ mem, s.moveData c n = s.withMem mem := fun n => by
    induction n with
    | zero => exact ⟨s.mem, rfl⟩
    | succ n ih =>
      obtain ⟨mem, h⟩ := ih
      rw [State.moveData_succ, h]
      exact State.writeCell_mem_only (s.withMem mem) _ _ _
  obtain ⟨mem, h⟩ := hdata (c.footprint - 1)
  rw [State.moveCopy_eq, h]
  cases (s.withMem mem).member? c.target with
  | none => exact ⟨mem, rfl⟩
  | some m => exact State.writeCell_mem_only (s.withMem mem) _ _ _

theorem State.modMember_slot (s : State) (r : MemberRef) (f : Member → Member) :
    (s.modMember r f).slot r.slot = { s.slot r.slot with members := (s.slot r.slot).members.modify r.index f } :=
  State.setSlot_slot ..

/-- A slot that is not FREE keeps QUIET away (R202). -/
theorem State.quietNow_of_slot {s : State} {id : SlotId} (h : (s.slot id).state ≠ .free) : s.quietNow = false := by
  cases id <;> simp only [State.slot] at h <;> simp [State.quietNow, h]

theorem State.noneToAdmit_congr {s t : State} (h : s.noneToAdmit) (hm : t.mgt = s.mgt) (ho : t.oft = s.oft) : t.noneToAdmit := by
  unfold State.noneToAdmit
  rw [hm, ho]
  exact h

/-- The front copy's completion with another copy with data behind it, in an OPEN target that neither closes nor commits (R184). -/
theorem State.completeCopy_eq {s : State} {c d : Copy} {rest : List Copy} (hc : s.aru.copies = c :: d :: rest)
    (ho : (s.slot c.target.slot).state = .opened) (hs : (s.slot c.target.slot).segmentOpen) :
    s.completeCopy = (State.bump
      (((s.modMember c.target fun m => if m.state = .copying then { m with state := .done } else m).moveCopy c).withAru
        { s.aru with copies := d :: rest }) .copiesCompleted).freeIdleHeld := by
  unfold State.completeCopy
  rw [hc]
  dsimp only
  obtain ⟨mem, hmem⟩ := (s.modMember c.target fun m => if m.state = .copying then { m with state := .done } else m).moveCopy_mem_only c
  have hslot := s.modMember_slot c.target fun m => if m.state = .copying then { m with state := .done } else m
  have hsettled := State.memberSettled_of_open
    (s := (s.modMember c.target fun m => if m.state = .copying then { m with state := .done } else m).moveCopy c)
    (id := c.target.slot) (by rw [hmem, State.withMem_slot, hslot]; exact ho) (by rw [hmem, State.withMem_slot, hslot]; exact hs)
  rw [hsettled, State.afterCopy_of_copies (by simp), hmem]
  simp [State.modMember]

/-- No copy counts for a buffer exactly when none of the queued ones has a source extent that touches its segment (R183). -/
theorem State.copyCount_eq_zero {s : State} {i : Fin 64} {id : SlotId} {k : Nat} (hb : (s.buffer i).bound = some (id, k)) :
    decide (s.copyCount i = 0) = !s.aru.copies.any fun y => y.source = id && touches y.sourceHead y.footprint k := by
  unfold State.copyCount
  rw [Bool.eq_iff_iff]
  simp [hb, List.countP_eq_zero]

theorem State.copyCount_unbound {s : State} {i : Fin 64} (hb : (s.buffer i).bound = none) : s.copyCount i = 0 := by
  unfold State.copyCount
  rw [hb]

theorem State.bump_withSpl (s : State) (c : Ctr) (x : Spl) : (s.bump c).withSpl x = (s.withSpl x).bump c := rfl

/-- What follows a completion with more data to copy: idle HELD buffers become FREE, and the step ends (R184). -/
theorem State.settle_freeIdleHeld {u : State} {id : SlotId} {d : Copy} {rest : List Copy} (hc : u.aru.copies = d :: rest)
    (hd : d.footprint ≠ 1) (hl : u.holderFull) (hn : u.noneToAdmit) (hslot : (u.slot id).state ≠ .free) (hw : u.wake = false) :
    u.freeIdleHeld.startCopies.settle = u.withSpl { u.spl with
      buffers := Vector.ofFn fun i => if u.idleHeld i = true then ⟨.free, none⟩ else u.buffer i } := by
  obtain ⟨w, hfree⟩ := u.freeIdleHeld_eq
  generalize Vector.ofFn _ = bufs at hfree ⊢
  have hstart : u.freeIdleHeld.startCopies = u.freeIdleHeld := State.startCopies_of_data (by rw [hfree]; exact hc) hd
  rw [hstart, hfree, State.settle_noneToAdmit]
  · exact State.withWake_self (s := u.withSpl _) hw
  · exact State.holderFull_congr hl rfl
  · exact State.noneToAdmit_congr hn rfl rfl
  · exact State.quietNow_of_slot (id := id) hslot

/-- Settles O43: the completion's own event is the move and the freeing of idle HELD buffers, and its step adds nothing. -/
theorem copyCompletes : Obligations.CopyCompletes := by
  refine ⟨fun c d rest s => ⟨fun hnone => ?_, ?_⟩, fun c m s hm hne hfoot hname htgt hsrc => ?_⟩
  · show Host.Outcome.next (if s.aru.copies.isEmpty then s.begin else s.begin.completeCopy.startCopies.settle) = _
    rw [hnone]
    rfl
  · intro hc hd ho hs hl hn needed
    show Host.Outcome.next (if s.aru.copies.isEmpty then s.begin else s.begin.completeCopy.startCopies.settle) = _
    rw [if_neg (by simp [hc]), State.completeCopy_eq (s := s.begin) hc ho hs]
    obtain ⟨mem, hmem⟩ := State.moveCopy_mem_only
      (s.begin.modMember c.target fun m => if m.state = .copying then { m with state := .done } else m) c
    have hslot := s.begin.modMember_slot c.target fun m => if m.state = .copying then { m with state := .done } else m
    rw [hmem]
    generalize hv : s.begin.modMember c.target _ = v at hslot
    obtain ⟨hlif, hoft, hmgt, hspl, hwake⟩ :
        v.lif = s.lif ∧ v.oft = s.oft ∧ v.mgt = s.mgt ∧ v.spl = s.spl ∧ v.wake = false := by
      subst hv; simp [State.modMember]
    generalize hu : State.bump (State.withAru (v.withMem mem) _) .copiesCompleted = u
    have hcopies : u.aru.copies = d :: rest := by subst hu; rfl
    have huspl : u.spl = s.spl := by subst hu; exact hspl
    have huslot : u.slot c.target.slot = v.slot c.target.slot := State.slot_of_pkb (by subst hu; simp) _
    have hsettle := State.settle_freeIdleHeld (u := u) (id := c.target.slot) hcopies hd
      (State.holderFull_congr hl (by subst hu; simpa using hlif))
      (State.noneToAdmit_congr hn (by subst hu; simpa using hmgt) (by subst hu; simpa using hoft))
      (by rw [huslot, hslot]; intro h; cases ho.symm.trans h) (by subst hu; simpa using hwake)
    have hcount (i : Fin 64) : decide (u.copyCount i = 0) = !needed i := by
      have hb := State.buffer_congr huspl i
      cases hbound : (s.buffer i).bound with
      | none =>
        have hnone := State.copyCount_unbound (s := u) (i := i) (by rw [hb, hbound])
        simp [hnone, needed, hbound]
      | some x =>
        rw [State.copyCount_eq_zero (by rw [hb, hbound]), hcopies]
        simp [needed, hbound]
    have hidle (i : Fin 64) : u.idleHeld i = ((s.buffer i).state = .held && !needed i) := by
      rw [State.idleHeld, State.buffer_congr huspl, hcount]
    rw [hsettle]
    simp only [hidle, State.buffer_congr huspl, huspl]
    subst hu
    rw [State.bump_withSpl]
    rfl
  · obtain ⟨mem, heq, honly, hdata, hhead⟩ := State.moveCopy_spec hm hne hfoot hname htgt hsrc
    rw [heq]
    refine ⟨hdata, hhead, fun a ha => honly a fun b cell ⟨n, ⟨hlo, hhi⟩, hb, hcell⟩ => ?_⟩
    have := ha (n - c.targetHead) b (by omega) (by rwa [Nat.add_sub_cancel' hlo])
    rwa [Nat.add_sub_cancel' hlo, hcell] at this

end Sys2Proof.Machine

/-! ## Buffers taken for segments (R10, R144) -/

namespace Sys2Proof.Machine

/-- Taking buffers changes the buffers and nothing else. -/
theorem State.takeBuffers_eq (s : State) (id : SlotId) (lo n : Nat) :
    ∃ bufs : Vector Buffer 64, s.takeBuffers id lo n = s.withSpl { s.spl with buffers := bufs } := by
  have hone (s : State) (k : Nat) : ∃ bufs : Vector Buffer 64, s.takeBuffer id k = s.withSpl { s.spl with buffers := bufs } := by
    unfold State.takeBuffer State.setBuffer
    split
    · split
      · exact ⟨s.spl.buffers, rfl⟩
      · exact ⟨_, rfl⟩
    · exact ⟨s.spl.buffers, rfl⟩
  induction n generalizing s lo with
  | zero => exact ⟨s.spl.buffers, rfl⟩
  | succ n ih =>
    obtain ⟨bufs, hbufs⟩ := hone s lo
    obtain ⟨bufs', hbufs'⟩ := ih (s.takeBuffer id lo) (lo + 1)
    refine ⟨bufs', ?_⟩
    show (s.takeBuffer id lo).takeBuffers id (lo + 1) n = _
    rw [hbufs', hbufs]
    rfl

/-- Holding buffers through a usable number changes the buffers and the slot's taken count (R10). -/
theorem State.holdThrough_eq (s : State) (id : SlotId) (y : Nat) : ∃ bufs : Vector Buffer 64,
    s.holdThrough id y = (s.withSpl { s.spl with buffers := bufs }).setSlot id
      { s.slot id with taken := max (s.slot id).taken (seg (y - 1) + 1) } := by
  obtain ⟨bufs, hbufs⟩ := s.takeBuffers_eq id (s.slot id).taken (seg (y - 1) + 1 - (s.slot id).taken)
  refine ⟨bufs, ?_⟩
  unfold State.holdThrough
  dsimp only
  rw [hbufs, State.withSpl_slot]

/-- The buffers taken are told by the buffers before and after alone. -/
theorem State.takesBuffers_congr {s s' t t' : State} {id : SlotId} {lo n : Nat} (hs : ∀ i, s'.buffer i = s.buffer i)
    (ht : ∀ i, t'.buffer i = t.buffer i) (h : s.takesBuffers t id lo n) : s'.takesBuffers t' id lo n := by
  unfold State.takesBuffers at *
  simpa only [hs, ht] using h

theorem State.holdThrough_takes (s : State) (id : SlotId) (y : Nat) :
    s.takesBuffers (s.holdThrough id y) id (s.slot id).taken (seg (y - 1) + 1 - (s.slot id).taken) :=
  State.takesBuffers_congr (fun _ => rfl) (State.buffer_congr (State.setSlot_spl ..)) (s.takeBuffers_takes id _ _)

@[simp] theorem State.holdThrough_slot (s : State) (id : SlotId) (y : Nat) : (s.holdThrough id y).slot id =
    { s.slot id with taken := max (s.slot id).taken (seg (y - 1) + 1) } := by
  obtain ⟨bufs, hbufs⟩ := s.holdThrough_eq id y
  rw [hbufs, State.setSlot_slot]

end Sys2Proof.Machine

/-! ## A placement in an OPEN pack (R105, R106) -/

namespace Sys2Proof.Machine

/-- With no FREE fetch slot a member waits in the fetch order queue (R123, R125). -/
theorem State.queueFetch_of_none {s : State} (h : s.freeFetchSlot = none) (r : MemberRef) :
    s.queueFetch r = s.withFen { s.fen with queue := s.fen.queue ++ [r] } := by
  have h' : (s.withFen { s.fen with queue := s.fen.queue ++ [r] }).freeFetchSlot = none := h
  unfold State.queueFetch State.takeFetches State.takeFetchesN
  simp only [h']

/-- The slot free for a fetch is read from the configuration and the fetch slots. -/
theorem State.freeFetchSlot_congr {s t : State} (hm : t.mgt = s.mgt) (hf : t.fen = s.fen) : t.freeFetchSlot = s.freeFetchSlot := by
  unfold State.freeFetchSlot
  rw [hm, hf]

@[simp] theorem State.recomputePromised_buffer (s : State) (i : Fin 64) : s.recomputePromised.buffer i = s.buffer i := rfl

@[simp] theorem State.recomputePromised_roomOf (s : State) (id : SlotId) : s.recomputePromised.roomOf id = s.roomOf id := rfl

/-- The margin test leaves a pack with room enough as it is (R108). -/
theorem State.testMargin_of_room {s : State} {id : SlotId}
    (h : (s.roomOf id).committed + s.mgt.config.closeMargin ≤ (s.roomOf id).u) : s.testMargin id = s := by
  unfold State.testMargin
  rw [if_neg (by omega)]

theorem State.testMemberLimit_of_ne {s : State} {id : SlotId} (h : (s.slot id).members.length ≠ 4096) : s.testMemberLimit id = s := by
  unfold State.testMemberLimit
  rw [if_neg h]

/-- The slot and the buffers a placement leaves (R105, steps 2 to 5): the member joins the table at E, and buffers are held up to the new E. -/
def State.extended (s : State) (id : SlotId) (file : FileInfo) (key : Word64) : State :=
  let x := s.slot id
  let e := x.e + footprintOf file.size
  (s.setSlot id { x with e := e, members := x.members ++ [newMember file key x.e false] }).holdThrough id e

/-- The state a placement leaves before the promised count is computed again (R105, steps 2 to 6): a member with data waits for a fetch. -/
def State.placed (s : State) (id : SlotId) (file : FileInfo) (key : Word64) : State :=
  (s.extended id file key).withFen { s.fen with
    queue := if file.size = 0 then s.fen.queue else s.fen.queue ++ [⟨id, (s.slot id).members.length⟩] }

section
variable (s : State) (id : SlotId) (file : FileInfo) (key : Word64)

theorem State.extended_slot : (s.extended id file key).slot id =
    { s.slot id with
      e := (s.slot id).e + footprintOf file.size
      members := (s.slot id).members ++ [newMember file key (s.slot id).e false]
      taken := max (s.slot id).taken (seg ((s.slot id).e + footprintOf file.size - 1) + 1) } := by
  unfold State.extended
  rw [State.holdThrough_slot, State.setSlot_slot]

theorem State.placed_slot : (s.placed id file key).slot id =
    { s.slot id with
      e := (s.slot id).e + footprintOf file.size
      members := (s.slot id).members ++ [newMember file key (s.slot id).e false]
      taken := max (s.slot id).taken (seg ((s.slot id).e + footprintOf file.size - 1) + 1) } := s.extended_slot id file key

theorem State.placed_takes : s.takesBuffers (s.placed id file key) id (s.slot id).taken
      (seg ((s.slot id).e + footprintOf file.size - 1) + 1 - (s.slot id).taken) := by
  have h := (s.setSlot id { s.slot id with
    e := (s.slot id).e + footprintOf file.size,
    members := (s.slot id).members ++ [newMember file key (s.slot id).e false] }).holdThrough_takes id
      ((s.slot id).e + footprintOf file.size)
  rw [State.setSlot_slot] at h
  exact State.takesBuffers_congr (State.buffer_congr (State.setSlot_spl ..).symm) (fun _ => rfl) h

/-- What a placement leaves as it was, but for the fetch order queue. -/
theorem State.extended_others : (s.extended id file key).lif = s.lif ∧ (s.extended id file key).oft = s.oft ∧
    (s.extended id file key).sel = s.sel ∧ (s.extended id file key).fen = s.fen ∧ (s.extended id file key).mgt = s.mgt ∧
    (s.extended id file key).wake = s.wake := by
  obtain ⟨bufs, hbufs⟩ := State.holdThrough_eq (s.setSlot id { s.slot id with
    e := (s.slot id).e + footprintOf file.size,
    members := (s.slot id).members ++ [newMember file key (s.slot id).e false] }) id ((s.slot id).e + footprintOf file.size)
  unfold State.extended
  dsimp only
  rw [hbufs]
  simp

end

/-- A placed member with data waits for a fetch where no fetch slot is FREE; one of size 0 does not (R105, step 6). -/
theorem State.placed_eq {s : State} {id : SlotId} {file : FileInfo} {key : Word64} (hfetch : s.freeFetchSlot = none) :
    (if !false && file.size ≠ 0 then (s.extended id file key).queueFetch ⟨id, (s.slot id).members.length⟩
      else s.extended id file key) = s.placed id file key := by
  obtain ⟨-, -, -, hfen, hmgt, -⟩ := s.extended_others id file key
  unfold State.placed
  by_cases h0 : file.size = 0
  · rw [if_neg (by simp [h0]), if_pos h0, ← hfen]
    rfl
  · rw [if_pos (by simp [h0]), if_neg h0, State.queueFetch_of_none ((State.freeFetchSlot_congr hmgt hfen).trans hfetch), hfen]

/-- The steps of a placement, from the extended slot on (R105). -/
theorem State.place_eq (s : State) (id : SlotId) (file : FileInfo) (key : Word64) : s.place id file key false =
    (let t := if !false && file.size ≠ 0 then (s.extended id file key).queueFetch ⟨id, (s.slot id).members.length⟩
      else s.extended id file key
    let t := (if (t.slot id).state = .forming then t.openPack id key else t).recomputePromised
    (((t.testMargin id).testMemberLimit id).testClose id).testCommit id).wakeUp := rfl

/-- A placement in an OPEN pack after which nothing follows: no fetch slot is free, the margin and the member limit are kept, and the
segment at the commit point is still being filled (R105). -/
theorem State.place_open {s : State} {id : SlotId} {file : FileInfo} (key : Word64) (ho : (s.slot id).state = .opened)
    (hfetch : s.freeFetchSlot = none)
    (hroom : ((s.placed id file key).roomOf id).committed + s.mgt.config.closeMargin ≤ capacity (s.slot id).limit)
    (hlimit : (s.slot id).members.length + 1 < 4096)
    (hopen : Slot.segmentOpen { s.slot id with e := (s.slot id).e + footprintOf file.size }) :
    s.place id file key false = (s.placed id file key).recomputePromised.wakeUp := by
  have hslot := s.placed_slot id file key
  obtain ⟨-, -, -, -, hmgt, -⟩ := s.extended_others id file key
  replace hmgt : (s.placed id file key).mgt = s.mgt := hmgt
  rw [State.place_eq, State.placed_eq hfetch]
  dsimp only
  generalize s.placed id file key = t at hslot hmgt hroom
  have hstate : (t.slot id).state = .opened := by rw [hslot]; exact ho
  have hmargin : t.recomputePromised.testMargin id = t.recomputePromised := by
    refine State.testMargin_of_room ?_
    rw [State.recomputePromised_roomOf, State.recomputePromised_mgt, hmgt]
    refine hroom.trans (Nat.le_of_eq ?_)
    rw [State.roomOf, hslot]
  have hmembers : t.recomputePromised.testMemberLimit id = t.recomputePromised := by
    refine State.testMemberLimit_of_ne ?_
    rw [State.recomputePromised_slot, hslot, List.length_append, List.length_singleton]
    omega
  have hcommit : t.recomputePromised.testCommit id = t.recomputePromised :=
    State.commitRun_of_none (State.committable_of_segmentOpen (by rw [State.recomputePromised_slot, hslot]; exact hopen)) 64
  rw [if_neg (by rw [hstate]; decide), hmargin, hmembers,
    State.testClose_of_ne_closing (by rw [State.recomputePromised_slot, hstate]; decide), hcommit]

/-! ## The pending table without a claim -/

/-- A pair's claim, listed once, and the table without it are the table (R73). -/
theorem perm_dropClaim {c : Claim} {cs : List Claim} (hn : (cs.map fun d => d.file.pair).Nodup) (hc : c ∈ cs) :
    cs.Perm (c :: dropClaim c.file.pair cs) := by
  induction cs with
  | nil => cases hc
  | cons d cs ih =>
    rw [List.map_cons, List.nodup_cons] at hn
    obtain ⟨hd, hn⟩ := hn
    unfold dropClaim at ih ⊢
    rcases List.mem_cons.1 hc with rfl | hc
    · have hrest : ∀ y ∈ cs, decide (y.file.pair ≠ c.file.pair) = true := fun y hy => by
        have : y.file.pair ≠ c.file.pair := fun e => hd (e ▸ List.mem_map_of_mem hy)
        simpa using this
      rw [List.filter_cons_of_neg (by simp), List.filter_eq_self.2 hrest]
    · have hne : d.file.pair ≠ c.file.pair := fun e => hd (e ▸ List.mem_map_of_mem hc)
      rw [List.filter_cons_of_pos (by simpa using hne)]
      exact ((ih hn hc).cons d).trans (.swap ..)

/-- The claims bound to a slot are the one that leaves the table and those still there. -/
theorem State.boundClaims_perm {s t : State} {id : SlotId} {c : Claim} (hn : (s.sel.claims.map fun d => d.file.pair).Nodup)
    (hc : c ∈ s.sel.claims) (hid : c.slot = some id) (ht : t.sel.claims = dropClaim c.file.pair s.sel.claims) :
    (s.boundClaims id).Perm (c :: t.boundClaims id) := by
  have hperm := (perm_dropClaim hn hc).filter fun d => d.slot = some id
  rwa [List.filter_cons_of_pos (by simpa using hid), ← ht] at hperm

/-- The claim leaves the bound ones as its footprint goes into E, so the committed extent does not move (R9). -/
theorem State.committed_placed {s u : State} {id : SlotId} {c : Claim} (hn : (s.sel.claims.map fun d => d.file.pair).Nodup)
    (hc : c ∈ s.sel.claims) (hid : c.slot = some id) (hsel : u.sel.claims = dropClaim c.file.pair s.sel.claims)
    (hslot : u.slot id = s.slot id) :
    ((u.placed id c.file c.key).roomOf id).committed = (s.roomOf id).committed := by
  have hperm := State.boundClaims_perm hn hc hid hsel
  have hlen := hperm.length_eq
  have hsum := (hperm.map fun c => footprintOf c.file.size).sum_eq
  obtain ⟨-, -, hsel', -⟩ := u.extended_others id c.file c.key
  have hbound : (u.placed id c.file c.key).boundClaims id = u.boundClaims id := by
    unfold State.boundClaims
    rw [show (u.placed id c.file c.key).sel = u.sel from hsel']
  rw [List.length_cons] at hlen
  rw [List.map_cons, List.sum_cons] at hsum
  unfold State.roomOf Room.committed
  rw [hbound, State.placed_slot, hslot, hlen, hsum, List.length_append, List.length_singleton, Nat.add_assoc _ 1, Nat.add_comm 1]
  dsimp only
  omega

/-- A pair's claim, as the table gives it. -/
theorem State.claim_pair {s : State} {p : FilePair} {c : Claim} (h : s.claim? p = some c) : c ∈ s.sel.claims ∧ c.file.pair = p :=
  ⟨List.mem_of_find?_eq_some h, by simpa using List.find?_some h⟩

/-- A GRANT for a claim bound to a slot (R83): the claim leaves the table, is counted, and its file is placed. -/
theorem State.grantedHere_bound {s : State} {p : FilePair} {c : Claim} {id : SlotId} (h : s.claim? p = some c) (hid : c.slot = some id) :
    s.grantedHere p = ((s.removeClaim p).bump .claimsPlaced).place id c.file c.key false := by
  unfold State.grantedHere
  simp only [h, hid]

/-- A wake-up that admits nothing, with a slot in use and a FULL holder, is all that a step spends (R75). -/
theorem State.settle_wakeUp {u : State} {id : SlotId} (hl : u.holderFull) (hn : u.noneToAdmit) (hs : (u.slot id).state ≠ .free)
    (hw : u.wake = false) : u.wakeUp.settle = u := by
  rw [State.settle_noneToAdmit (s := u.wakeUp) hl hn (State.quietNow_of_slot (id := id) hs)]
  exact State.withWake_self hw

/-- Settles O12: the placement is the step's only change, by the form the hypotheses give it. -/
theorem grantPlaces : Obligations.GrantPlaces := by
  intro f sender ticket c id s hacc hread hclaim hid hn ho hfull hnone hfetch hmargin hlimit x e hopen m a b held
  obtain ⟨hmem, hpair⟩ := State.claim_pair hclaim
  have hbslot : b.slot id = x := rfl
  have hbsel : b.sel.claims = dropClaim c.file.pair s.sel.claims := by rw [hpair]; rfl
  have hcommitted := State.committed_placed hn hmem hid hbsel hbslot
  have hslot := b.placed_slot id c.file c.key
  have htakes := b.placed_takes id c.file c.key
  rw [hbslot] at hslot htakes
  obtain ⟨hlif, hoft, -, -, hmgt, hwake⟩ := b.extended_others id c.file c.key
  have hplaced : b.placed id c.file c.key = { held with fen := { s.fen with
      queue := if c.file.size = 0 then s.fen.queue else s.fen.queue ++ [⟨id, x.members.length⟩] } } := rfl
  have hrec : s.begin.receiveGrant f = (b.place id c.file c.key false).settle := by
    refine (State.receive_accepted _ _ (State.accepts_begin hacc) hread).trans ?_
    refine (congrArg State.settle (if_pos rfl)).trans (congrArg State.settle ?_)
    exact State.grantedHere_bound (s := s.begin.bump .framesAccepted) hclaim hid
  have hplace : b.place id c.file c.key false = (b.placed id c.file c.key).recomputePromised.wakeUp :=
    State.place_open c.key ho hfetch (by rw [hcommitted]; exact hmargin) hlimit hopen
  have hused : ((b.placed id c.file c.key).slot id).state ≠ .free := by
    rw [hslot]
    intro h
    cases ho.symm.trans h
  have hsettle : (b.placed id c.file c.key).recomputePromised.wakeUp.settle = (b.placed id c.file c.key).recomputePromised :=
    State.settle_wakeUp (State.holderFull_congr hfull hlif) (State.noneToAdmit_congr hnone hmgt hoft) hused hwake
  rw [hplace, hsettle] at hrec
  refine ⟨_, congrArg Host.Outcome.next hrec, by rw [hplaced], ?_, ?_, ?_, ?_, ?_⟩
  · exact congrArg Slot.e hslot
  · exact congrArg Slot.members hslot
  · exact congrArg Slot.taken hslot
  · exact State.takesBuffers_congr (State.buffer_congr (s := b) rfl) (State.recomputePromised_buffer _) htakes
  · rw [State.recomputePromised_roomOf, hcommitted]

end Sys2Proof.Machine

/-! ## Runs of commits (R147, R148) -/

namespace Sys2Proof.Machine

/-- A segment's buffer is told by the bindings alone. -/
theorem State.bufferOf_congr {s t : State} (h : ∀ i, (t.buffer i).bound = (s.buffer i).bound) (id : SlotId) (k : Nat) :
    t.bufferOf id k = s.bufferOf id k := by
  unfold State.bufferOf
  simp only [h]

/-- From s to t nothing has changed but what commits of a slot change: buffer states with their bindings kept, the slot's commit point and
members with their files kept, the drain queue, the memory and the counter of committed segments. -/
structure State.CommitsOnly (id : SlotId) (s t : State) : Prop where
  lif : t.lif = s.lif
  oft : t.oft = s.oft
  pvw : t.pvw = s.pvw
  sel : t.sel = s.sel
  fen : t.fen = s.fen
  aru : t.aru = s.aru
  mgt : t.mgt = s.mgt
  promised : t.spl.promised = s.spl.promised
  bound : ∀ i, (t.buffer i).bound = (s.buffer i).bound
  other : t.slot id.other = s.slot id.other
  own : ∃ ms p, t.slot id = { s.slot id with members := ms, commitPoint := p } ∧
    ms.map Member.file = (s.slot id).members.map Member.file
  count : ∀ c, c ≠ .segmentsCommitted → t.count c = s.count c

theorem State.CommitsOnly.refl (id : SlotId) (s : State) : State.CommitsOnly id s s where
  lif := rfl
  oft := rfl
  pvw := rfl
  sel := rfl
  fen := rfl
  aru := rfl
  mgt := rfl
  promised := rfl
  bound _ := rfl
  other := rfl
  own := ⟨_, _, rfl, rfl⟩
  count _ _ := rfl

theorem State.CommitsOnly.trans {id : SlotId} {s t u : State} (h : State.CommitsOnly id s t) (h' : State.CommitsOnly id t u) :
    State.CommitsOnly id s u where
  lif := h'.lif.trans h.lif
  oft := h'.oft.trans h.oft
  pvw := h'.pvw.trans h.pvw
  sel := h'.sel.trans h.sel
  fen := h'.fen.trans h.fen
  aru := h'.aru.trans h.aru
  mgt := h'.mgt.trans h.mgt
  promised := h'.promised.trans h.promised
  bound i := (h'.bound i).trans (h.bound i)
  other := h'.other.trans h.other
  own := by
    obtain ⟨ms, p, hslot, hfiles⟩ := h.own
    obtain ⟨ms', p', hslot', hfiles'⟩ := h'.own
    rw [hslot] at hslot' hfiles'
    exact ⟨ms', p', hslot', hfiles'.trans hfiles⟩
  count c hc := (h'.count c hc).trans (h.count c hc)

/-- A commit into the buffer bound to its segment keeps the binding. -/
theorem State.setBuffer_bound_same {s : State} {b : Fin 64} {x : Buffer} (h : x.bound = (s.buffer b).bound) (i : Fin 64) :
    ((s.setBuffer b x).buffer i).bound = (s.buffer i).bound := by
  by_cases e : i = b
  · subst e
    by_cases hr : (s.buffer i).state = .retired
    · unfold State.setBuffer; rw [if_pos hr]
    · rw [s.setBuffer_buffer i i x hr, if_pos rfl, h]
  · rw [s.setBuffer_buffer_other e]

theorem State.commitSegment_commitsOnly {s : State} {id : SlotId} {k : Nat} {b : Fin 64} (hb : s.bufferOf id k = some b) :
    State.CommitsOnly id s (s.commitSegment id k b) where
  lif := by simp
  oft := by simp
  pvw := by simp
  sel := by simp
  fen := by simp
  aru := by simp
  mgt := by simp
  promised := by simp
  bound i := by
    rw [State.buffer_congr (s.commitSegment_spl id k b)]
    exact State.setBuffer_bound_same (State.bufferOf_bound hb).symm i
  other := by simp
  own := ⟨_, _, s.commitSegment_slot id k b, by simp [Function.comp_def]⟩
  count c hc := by rw [s.commitSegment_count id k b, if_neg hc]

/-- What it takes for a segment to be committable (R147). -/
theorem State.committable_some {s : State} {id : SlotId} {k : Nat} {b : Fin 64} (h : s.committable id = some (k, b)) :
    (s.slot id).commitPoint = some k ∧ s.bufferOf id k = some b := by
  unfold State.committable at h
  cases hk : (s.slot id).commitPoint with
  | none => simp [hk] at h
  | some k' =>
    simp only [hk] at h
    split at h
    · cases hb : s.bufferOf id k' with
      | none => simp [hb] at h
      | some b' =>
        rw [hb] at h
        cases h
        exact ⟨rfl, hb⟩
    · cases h

theorem State.commitRun_succ_of_some {s : State} {id : SlotId} {k : Nat} {b : Fin 64} (h : s.committable id = some (k, b)) (n : Nat) :
    s.commitRun id (n + 1) = (s.commitSegment id k b).commitRun id n := by
  rw [State.commitRun, h]

theorem State.commitRun_commitsOnly (s : State) (id : SlotId) (n : Nat) : State.CommitsOnly id s (s.commitRun id n) := by
  induction n generalizing s with
  | zero => exact .refl id s
  | succ n ih =>
    cases hc : s.committable id with
    | none => rw [State.commitRun_of_none hc]; exact .refl id s
    | some kb =>
      obtain ⟨k, b⟩ := kb
      rw [State.commitRun_succ_of_some hc]
      exact (State.commitSegment_commitsOnly (State.committable_some hc).2).trans (ih _)

/-- After n commits from commit point k with a segment still committable, buffers are bound to the segments k to k + n. -/
theorem State.commitRun_buffers {s : State} {id : SlotId} {n k : Nat} (h : (s.commitRun id n).committable id ≠ none)
    (hk : (s.slot id).commitPoint = some k) : ∀ j, j ≤ n → (s.bufferOf id (k + j)).isSome = true := by
  induction n generalizing s k with
  | zero =>
    intro j hj
    obtain ⟨⟨k', b⟩, hc⟩ := Option.ne_none_iff_exists'.1 h
    obtain ⟨hk', hb⟩ := State.committable_some (s := s) hc
    have e : k = k' := by simpa [hk] using hk'
    rw [Nat.le_zero.1 hj, Nat.add_zero, e, hb]
    rfl
  | succ n ih =>
    intro j hj
    cases hc : s.committable id with
    | none =>
      rw [State.commitRun_of_none hc] at h
      exact absurd hc h
    | some kb =>
      obtain ⟨k', b⟩ := kb
      obtain ⟨hk', hb⟩ := State.committable_some hc
      have e : k = k' := by simpa [hk] using hk'
      subst e
      rw [State.commitRun_succ_of_some hc] at h
      cases j with
      | zero => rw [Nat.add_zero, hb]; rfl
      | succ j =>
        have hnext := ih h (by rw [State.commitSegment_slot]; rfl) j (by omega)
        rw [State.bufferOf_congr (State.commitSegment_commitsOnly hb).bound, Nat.add_assoc, Nat.add_comm 1] at hnext
        exact hnext

/-- A run of 64 commits leaves no segment committable: there are 64 buffers, and each segment has its own (R143, R148). -/
theorem State.testCommit_committable (s : State) (id : SlotId) : (s.testCommit id).committable id = none := by
  by_contra h
  cases hk : (s.slot id).commitPoint with
  | none =>
    have hnone : s.committable id = none := by unfold State.committable; rw [hk]
    rw [State.testCommit, State.commitRun_of_none hnone] at h
    exact h hnone
  | some k =>
    have hall := State.commitRun_buffers h hk
    have hinj : Function.Injective fun j : Fin 65 => (s.bufferOf id (k + j.val)).get (hall j.val (by omega)) := by
      intro i j hij
      have hi := Option.some_get (hall i.val (by omega))
      have hj := Option.some_get (hall j.val (by omega))
      dsimp only at hij
      rw [hij] at hi
      have := (State.bufferOf_inj hi.symm hj.symm).2
      omega
    have hcard := Fintype.card_le_of_injective _ hinj
    simp at hcard

end Sys2Proof.Machine

/-! ## The close of a pack (R110, R111, R115) -/

namespace Sys2Proof.Machine

/-- A trigger of the same slot remakes the waiting item (R63). -/
theorem putItem_putItem {x y : BeaconItem} (h : y.slot = x.slot) (items : List BeaconItem) :
    putItem x (putItem y items) = putItem x items := by
  by_cases hany : (items.any fun z => z.slot = x.slot) = true
  · have hany' : (items.any fun z => z.slot = y.slot) = true := by rwa [h]
    have hmap : ((items.map fun z => if z.slot = y.slot then y else z).any fun z => z.slot = x.slot) = true := by
      obtain ⟨z, hz, hzs⟩ := List.any_eq_true.1 hany'
      exact List.any_eq_true.2 ⟨y, List.mem_map.2 ⟨z, hz, if_pos (by simpa using hzs)⟩, by simpa using h⟩
    unfold putItem
    rw [if_pos hany', if_pos hmap, if_pos hany, List.map_map]
    refine List.map_congr_left fun z _ => ?_
    by_cases hz : z.slot = x.slot <;> simp [h, hz]
  · have hany' : ¬ (items.any fun z => z.slot = y.slot) = true := by rwa [h]
    have hnone : ∀ z ∈ items, z.slot ≠ x.slot := by simpa using hany
    unfold putItem
    rw [if_neg hany', if_neg hany, if_pos (by simp [h]), List.map_append]
    congr 1
    · exact (List.map_congr_left fun z hz => if_neg (hnone z hz)).trans (List.map_id' items)
    · simp [h]

@[simp] theorem State.triggerBeacon_slot (s : State) (id : SlotId) (p : PackPhase) (id' : SlotId) :
    (s.triggerBeacon id p).slot id' = s.slot id' := State.slot_of_pkb (State.triggerBeacon_pkb ..) id'

/-- A trigger in RUN makes the item, and stops the timer for an OPEN or CLOSING one unless it is due (R63, R65). -/
theorem State.triggerBeacon_of_run {s : State} (h : s.mgt.run = .run) (id : SlotId) (p : PackPhase) :
    s.triggerBeacon id p = s.withPvw
      { s.pvw with
        items := putItem (s.beaconItem id p) s.pvw.items
        timer := if p.holding then s.pvw.timer.filter (· ≤ s.now) else s.pvw.timer } := by
  unfold State.triggerBeacon
  rw [if_pos (.inl h)]

theorem State.timestamp_congr {s t : State} (h : t.mgt = s.mgt) : t.timestamp = s.timestamp := by
  unfold State.timestamp State.now
  rw [h]

/-- With neither slot accepting there is no accepting pack (R99). -/
theorem State.accepting_eq_none {s : State} {id : SlotId} (h : (s.slot id).state.accepting = false)
    (h' : (s.slot id.other).state.accepting = false) : s.accepting = none := by
  cases id <;> simp_all [State.accepting, State.slot, SlotId.other]

theorem State.recomputePromised_of_none {s : State} (h : s.accepting = none) :
    s.recomputePromised = s.withSpl { s.spl with promised := 0 } := by
  unfold State.recomputePromised
  rw [h]

/-- The entry to CLOSED up to the placing of the manifest and its buffers (R115). -/
def State.manifested (s : State) (id : SlotId) : State :=
  let mf := s.manifestOf id
  let s := s.holdThrough id (mf.headN + mc mf.entries.length)
  s.setSlot id { s.slot id with state := .closed, manifest := some mf }

/-- The entry to CLOSED ahead of its commits (R115): the manifest placed, its buffers taken, the beacon item made and the timer stopped. -/
def State.sealed (s : State) (id : SlotId) : State :=
  (((s.manifested id).triggerBeacon id .closed).stopBeaconTimer).recomputePromised.wakeUp

theorem State.enterClosed_eq (s : State) (id : SlotId) : s.enterClosed id = (s.sealed id).testCommit id := rfl

section
variable (s : State) (id : SlotId)

/-- Placing the manifest changes the buffers and the slot alone. -/
theorem State.manifested_eq : ∃ bufs : Vector Buffer 64, s.manifested id = (s.withSpl { s.spl with buffers := bufs }).setSlot id
    { s.slot id with
      state := .closed, manifest := some (s.manifestOf id), taken := max (s.slot id).taken (s.manifestOf id).packLength } := by
  obtain ⟨bufs, hbufs⟩ := s.holdThrough_eq id ((s.manifestOf id).headN + mc (s.manifestOf id).entries.length)
  refine ⟨bufs, ?_⟩
  unfold State.manifested
  dsimp only
  rw [hbufs, State.setSlot_slot]
  cases id <;> simp [State.setSlot, State.manifestOf] <;> rfl

theorem State.manifested_slot : (s.manifested id).slot id =
    { s.slot id with
      state := .closed, manifest := some (s.manifestOf id), taken := max (s.slot id).taken (s.manifestOf id).packLength } := by
  obtain ⟨bufs, hbufs⟩ := s.manifested_eq id
  rw [hbufs, State.setSlot_slot]

theorem State.manifested_takes : s.takesBuffers (s.manifested id) id (s.slot id).taken
    ((s.manifestOf id).packLength - (s.slot id).taken) := by
  have h := s.holdThrough_takes id ((s.manifestOf id).headN + mc (s.manifestOf id).entries.length)
  have hpack : seg ((s.manifestOf id).headN + mc (s.manifestOf id).entries.length - 1) + 1 = (s.manifestOf id).packLength := by
    simp [State.manifestOf]
  rw [hpack] at h
  exact State.takesBuffers_congr (fun _ => rfl) (State.buffer_congr (State.setSlot_spl ..)) h

end

/-- What the entry to CLOSED leaves ahead of its commits, in RUN with no other accepting pack (R66, R104, R115). -/
theorem State.sealed_eq {s : State} {id : SlotId} (hrun : s.mgt.run = .run) (hother : (s.slot id.other).state.accepting = false) :
    s.sealed id = (((s.manifested id).withPvw { s.pvw with
      items := putItem ⟨id, s.mgt.config.epoch, (s.slot id).seq, .closed, (s.slot id).primaryKey.getD 0, fillOf (s.slot id).e,
        (s.slot id).members.length⟩ s.pvw.items
      timer := none }).withSpl { (s.manifested id).spl with promised := 0 }).wakeUp := by
  obtain ⟨bufs, hbufs⟩ := s.manifested_eq id
  have hslot := s.manifested_slot id
  have hmgt : (s.manifested id).mgt = s.mgt := by rw [hbufs]; simp
  have hpvw : (s.manifested id).pvw = s.pvw := by rw [hbufs]; simp
  have hitem : (s.manifested id).beaconItem id .closed = ⟨id, s.mgt.config.epoch, (s.slot id).seq, .closed,
      (s.slot id).primaryKey.getD 0, fillOf (s.slot id).e, (s.slot id).members.length⟩ := by
    unfold State.beaconItem
    rw [hslot, hmgt]
  have hnone : ((s.manifested id).triggerBeacon id .closed).stopBeaconTimer.accepting = none := by
    refine State.accepting_eq_none (id := id) ?_ ?_
    · show (((s.manifested id).triggerBeacon id .closed).slot id).state.accepting = false
      rw [State.triggerBeacon_slot, hslot]
      rfl
    · show (((s.manifested id).triggerBeacon id .closed).slot id.other).state.accepting = false
      rw [State.triggerBeacon_slot, hbufs, State.setSlot_slot_other, State.withSpl_slot, hother]
  unfold State.sealed
  rw [State.recomputePromised_of_none hnone, State.triggerBeacon_of_run (by rw [hmgt]; exact hrun), hitem, hpvw]
  rfl

end Sys2Proof.Machine

/-! ## CLOSE_NOW of a pack that goes on to CLOSED (R111, R115, R203) -/

namespace Sys2Proof.Machine

/-- The entry to CLOSING, counted for its cause (R108 to R110). -/
def State.closing (s : State) (id : SlotId) (cause : CloseCause) : State :=
  ((s.setSlot id { s.slot id with state := .closing, ageDeadline := none }).triggerBeacon id .closing).bump cause.counter

theorem State.closeFor_of_open {s : State} {id : SlotId} (h : (s.slot id).state = .opened) (cause : CloseCause) :
    s.closeFor id cause = (s.closing id cause).testClose id := by
  unfold State.closeFor
  rw [if_pos h]
  rfl

theorem State.closing_slot (s : State) (id : SlotId) (cause : CloseCause) :
    (s.closing id cause).slot id = { s.slot id with state := .closing, ageDeadline := none } := by
  unfold State.closing
  rw [State.bump_slot, State.triggerBeacon_slot, State.setSlot_slot]

theorem State.closing_slot_other (s : State) (id : SlotId) (cause : CloseCause) :
    (s.closing id cause).slot id.other = s.slot id.other := by
  unfold State.closing
  rw [State.bump_slot, State.triggerBeacon_slot, State.setSlot_slot_other]

/-- The entry to CLOSING in RUN: the slot, a beacon item and the counter (R64, R65). -/
theorem State.closing_eq {s : State} (id : SlotId) (cause : CloseCause) (hrun : s.mgt.run = .run) :
    s.closing id cause = State.bump ((s.setSlot id { s.slot id with state := .closing, ageDeadline := none }).withPvw
      { s.pvw with
        items := putItem ((s.setSlot id { s.slot id with state := .closing, ageDeadline := none }).beaconItem id .closing) s.pvw.items
        timer := s.pvw.timer.filter (· ≤ s.now) }) cause.counter := by
  unfold State.closing
  rw [State.triggerBeacon_of_run (by simpa using hrun)]
  cases id <;> rfl

theorem State.closeReady_congr {s t : State} {id : SlotId} (hs : t.sel = s.sel) (hm : (t.slot id).members = (s.slot id).members) :
    t.closeReady id = s.closeReady id := by
  unfold State.closeReady State.boundClaims
  rw [hs, hm]

/-- An OPEN pack whose members are all settled goes on to CLOSED at a close trigger (R111). -/
theorem State.closeFor_closes {s : State} {id : SlotId} (h : (s.slot id).state = .opened) (cause : CloseCause)
    (hrun : s.mgt.run = .run) (hready : s.closeReady id = true) :
    s.closeFor id cause = ((s.closing id cause).sealed id).testCommit id := by
  have hslot := s.closing_slot id cause
  have hsel : (s.closing id cause).sel = s.sel := by rw [State.closing_eq id cause hrun]; simp
  have hclosed : (s.closing id cause).closeReady id = true := by
    rw [State.closeReady_congr hsel (by rw [hslot]), hready]
  rw [State.closeFor_of_open h, State.testClose, if_pos (by rw [hclosed, hslot]; rfl), State.enterClosed_eq]

section
variable {s : State} {id : SlotId} {cause : CloseCause}

theorem State.closing_others (hrun : s.mgt.run = .run) : (s.closing id cause).lif = s.lif ∧ (s.closing id cause).oft = s.oft ∧
    (s.closing id cause).sel = s.sel ∧ (s.closing id cause).fen = s.fen ∧ (s.closing id cause).spl = s.spl ∧
    (s.closing id cause).aru = s.aru ∧ (s.closing id cause).mgt = s.mgt := by
  rw [State.closing_eq id cause hrun]
  simp

theorem State.closing_pvw (hrun : s.mgt.run = .run) : (s.closing id cause).pvw =
    { s.pvw with
      items := putItem ((s.setSlot id { s.slot id with state := .closing, ageDeadline := none }).beaconItem id .closing) s.pvw.items
      timer := s.pvw.timer.filter (· ≤ s.now) } := by
  rw [State.closing_eq id cause hrun]
  simp

theorem State.closing_manifestOf (hrun : s.mgt.run = .run) : (s.closing id cause).manifestOf id = s.manifestOf id := by
  obtain ⟨-, -, -, -, -, -, hmgt⟩ := State.closing_others (id := id) (cause := cause) hrun
  unfold State.manifestOf
  rw [State.closing_slot, State.timestamp_congr hmgt]

/-- The slot after the two entries, ahead of the commits (R108 to R110, R115). -/
theorem State.closing_sealed_slot (hrun : s.mgt.run = .run) (hother : (s.slot id.other).state.accepting = false) :
    ((s.closing id cause).sealed id).slot id =
      { s.slot id with
        state := .closed, ageDeadline := none, manifest := some (s.manifestOf id)
        taken := max (s.slot id).taken (s.manifestOf id).packLength } := by
  obtain ⟨-, -, -, -, -, -, hmgt⟩ := State.closing_others (id := id) (cause := cause) hrun
  rw [State.sealed_eq (by rw [hmgt, hrun]) (by rw [State.closing_slot_other, hother]), State.wakeUp_slot, State.withSpl_slot,
    State.withPvw_slot, State.manifested_slot, State.closing_slot, State.closing_manifestOf hrun]

theorem State.closing_sealed_others (hrun : s.mgt.run = .run) (hother : (s.slot id.other).state.accepting = false) :
    ((s.closing id cause).sealed id).lif = s.lif ∧ ((s.closing id cause).sealed id).oft = s.oft ∧
    ((s.closing id cause).sealed id).sel = s.sel ∧ ((s.closing id cause).sealed id).fen = s.fen ∧
    ((s.closing id cause).sealed id).aru = s.aru ∧ ((s.closing id cause).sealed id).mgt = s.mgt ∧
    ((s.closing id cause).sealed id).spl.promised = 0 ∧
    ((s.closing id cause).sealed id).slot id.other = s.slot id.other ∧
    ((s.closing id cause).sealed id).count cause.counter = saturatingNext (s.count cause.counter) := by
  obtain ⟨hlif, hoft, hsel, hfen, -, haru, hmgt⟩ := State.closing_others (id := id) (cause := cause) hrun
  have hslot := State.closing_slot_other s id cause
  have hcount : (s.closing id cause).count cause.counter = saturatingNext (s.count cause.counter) := by
    rw [State.closing_eq id cause hrun, State.count_bump]
    exact congrArg saturatingNext (State.count_congr (by simp) _)
  rw [State.sealed_eq (by rw [hmgt, hrun]) (by rw [hslot, hother])]
  obtain ⟨bufs, hbufs⟩ := (s.closing id cause).manifested_eq id
  rw [hbufs]
  refine ⟨by simpa using hlif, by simpa using hoft, by simpa using hsel, by simpa using hfen, by simpa using haru, by simpa using hmgt,
    rfl, by simpa using hslot, ?_⟩
  rw [State.count_congr (s := s.closing id cause) (by simp), hcount]

/-- The one beacon item the two entries leave, and the stopped timer (R63, R65). -/
theorem State.closing_sealed_pvw (hrun : s.mgt.run = .run) (hother : (s.slot id.other).state.accepting = false) :
    ((s.closing id cause).sealed id).pvw = { s.pvw with
      items := putItem ⟨id, s.mgt.config.epoch, (s.slot id).seq, .closed, (s.slot id).primaryKey.getD 0, fillOf (s.slot id).e,
        (s.slot id).members.length⟩ s.pvw.items
      timer := none } := by
  obtain ⟨-, -, -, -, -, -, hmgt⟩ := State.closing_others (id := id) (cause := cause) hrun
  rw [State.sealed_eq (by rw [hmgt, hrun]) (by rw [State.closing_slot_other, hother]), State.wakeUp_pvw, State.withSpl_pvw,
    State.withPvw_pvw, State.closing_slot, State.closing_pvw hrun, hmgt]
  exact congrArg (fun items => ({ s.pvw with items := items, timer := none } : Pvw))
    (putItem_putItem (x := ⟨id, s.mgt.config.epoch, (s.slot id).seq, .closed, (s.slot id).primaryKey.getD 0, fillOf (s.slot id).e,
      (s.slot id).members.length⟩)
      (y := (s.setSlot id { s.slot id with state := .closing, ageDeadline := none }).beaconItem id .closing) rfl s.pvw.items)

/-- The buffers taken for the segments up to the manifest's last (R144). -/
theorem State.closing_sealed_takes (hrun : s.mgt.run = .run) (hother : (s.slot id.other).state.accepting = false) :
    s.takesBuffers ((s.closing id cause).sealed id) id (s.slot id).taken
      ((s.manifestOf id).packLength - (s.slot id).taken) := by
  obtain ⟨-, -, -, -, hspl, -, hmgt⟩ := State.closing_others (id := id) (cause := cause) hrun
  have h := (s.closing id cause).manifested_takes id
  rw [State.closing_slot, State.closing_manifestOf hrun] at h
  refine State.takesBuffers_congr (State.buffer_congr hspl.symm) (fun i => ?_) h
  rw [State.sealed_eq (by rw [hmgt, hrun]) (by rw [State.closing_slot_other, hother])]
  rfl

end

/-- What is committable is told by the slot and the bindings. -/
theorem State.committable_congr {s t : State} (hp : t.pkb = s.pkb) (hs : t.spl = s.spl) (id : SlotId) :
    t.committable id = s.committable id := by
  have hbuffer := State.bufferOf_congr (s := s) (t := t) (fun i => congrArg Buffer.bound (State.buffer_congr hs i)) id
  unfold State.committable
  simp only [State.slot_of_pkb hp, hbuffer]

/-! ### The answer of a command -/

theorem State.answer_eq (s : State) (st : Status) (data : List Byte) : ∃ counters : Vector Counter 84,
    s.answer st data = (s.withMgt { s.mgt with response := some ⟨st, data, false⟩ }).withCounters counters ∧
    ∀ c, c ≠ .responsesReplacedUnread → c ≠ st.counter → (s.answer st data).count c = s.count c := by
  refine ⟨(s.answer st data).counters, ?_, fun c h1 h2 => ?_⟩
  · unfold State.answer
    split <;> rfl
  · unfold State.answer
    rw [State.count_bump_other _ (Ne.symm h2)]
    split
    · exact s.count_bump_other (Ne.symm h1)
    · rfl

/-- CLOSE_NOW in RUN, in either form (R203). -/
theorem exec_closeNow {s : State} (form : ModeForm) (params : List Byte) (hrun : s.mgt.run = .run) (hr : s.mgt.restarting = false) :
    exec (.closeNow form params) s = .next (((s.begin.closeAccepting .command).answer .done []).settle) := by
  have hbusy : s.begin.isBusy = false := by simp [State.isBusy, hrun, hr]
  have htake : s.begin.takeCloseNow = ((s.begin.closeAccepting .command).answer .done []).settle := by
    simp [State.takeCloseNow, State.command, hbusy, hrun]
  rw [← htake]
  cases form with
  | short => rfl
  | runMode =>
    refine congrArg Host.Outcome.next ?_
    show s.begin.takeRunMode (1 :: params) = _
    simp [State.takeRunMode, hbusy, fieldAt_cons_zero]

/-- From s to t the pack of a slot has gone from OPEN to CLOSED, its manifest placed, buffers bound to the segments up to the manifest's
last, and every segment then committable committed (R115, R144, R148). -/
structure State.HasClosed (id : SlotId) (cause : CloseCause) (s t : State) : Prop where
  own : ∃ ms p, t.slot id =
      { s.slot id with
        state := .closed, ageDeadline := none, manifest := some (s.manifestOf id), members := ms, commitPoint := p
        taken := max (s.slot id).taken (s.manifestOf id).packLength } ∧
    ms.map Member.file = (s.slot id).members.map Member.file
  other : t.slot id.other = s.slot id.other
  takes (j : Nat) (i : Fin 64) : j < (s.manifestOf id).packLength - (s.slot id).taken →
    ((List.finRange 64).filter fun i => (s.buffer i).state = .free)[j]? = some i →
    (t.buffer i).bound = some (id, (s.slot id).taken + j)
  keeps (i : Fin 64) : (∀ j, j < (s.manifestOf id).packLength - (s.slot id).taken →
      ((List.finRange 64).filter fun i => (s.buffer i).state = .free)[j]? ≠ some i) →
    (t.buffer i).bound = (s.buffer i).bound
  committable : t.committable id = none
  promised : t.spl.promised = 0
  pvw : t.pvw = { s.pvw with
    items := putItem ⟨id, s.mgt.config.epoch, (s.slot id).seq, .closed, (s.slot id).primaryKey.getD 0, fillOf (s.slot id).e,
      (s.slot id).members.length⟩ s.pvw.items
    timer := none }
  count : t.count cause.counter = saturatingNext (s.count cause.counter)
  lif : t.lif = s.lif
  oft : t.oft = s.oft
  sel : t.sel = s.sel
  fen : t.fen = s.fen
  aru : t.aru = s.aru
  run : t.mgt.run = s.mgt.run

/-- A close trigger closes an OPEN pack that is ready, with no other pack accepting (R111, R115). -/
theorem State.closeFor_hasClosed {s : State} {id : SlotId} (h : (s.slot id).state = .opened) (cause : CloseCause)
    (hrun : s.mgt.run = .run) (hready : s.closeReady id = true) (hother : (s.slot id.other).state.accepting = false) :
    State.HasClosed id cause s (s.closeFor id cause) := by
  rw [State.closeFor_closes h cause hrun hready]
  have hslot := State.closing_sealed_slot (cause := cause) hrun hother
  obtain ⟨hlif, hoft, hsel, hfen, haru, hmgt, hpromised, hslotOther, hcount⟩ := State.closing_sealed_others (cause := cause) hrun hother
  have hpvw := State.closing_sealed_pvw (cause := cause) hrun hother
  obtain ⟨htaken, hkept⟩ := State.closing_sealed_takes (cause := cause) hrun hother
  generalize (s.closing id cause).sealed id = v at *
  have hcommits : State.CommitsOnly id v (v.testCommit id) := v.commitRun_commitsOnly id 64
  obtain ⟨ms, p, hown, hfiles⟩ := hcommits.own
  exact {
    own := ⟨ms, p, by rw [hown, hslot], by rw [hfiles, hslot]⟩
    other := hcommits.other.trans hslotOther
    takes := fun j i hj hi => by rw [hcommits.bound, htaken j i hj hi]
    keeps := fun i hi => by rw [hcommits.bound, hkept i hi]
    committable := v.testCommit_committable id
    promised := hcommits.promised.trans hpromised
    pvw := hcommits.pvw.trans hpvw
    count := (hcommits.count _ (by cases cause <;> decide)).trans hcount
    lif := hcommits.lif.trans hlif
    oft := hcommits.oft.trans hoft
    sel := hcommits.sel.trans hsel
    fen := hcommits.fen.trans hfen
    aru := hcommits.aru.trans haru
    run := by rw [hcommits.mgt, hmgt] }

/-- The answer to the command that closed the pack leaves it closed. -/
theorem State.HasClosed.answer {id : SlotId} {s t : State} (h : State.HasClosed id .command s t) :
    State.HasClosed id .command s (t.answer .done []) := by
  obtain ⟨counters, hans, hcount⟩ := t.answer_eq .done []
  have hpkb : (t.answer .done []).pkb = t.pkb := by simp [hans]
  have hspl : (t.answer .done []).spl = t.spl := by simp [hans]
  exact {
    own := by rw [State.slot_of_pkb hpkb]; exact h.own
    other := by rw [State.slot_of_pkb hpkb, h.other]
    takes := by simpa only [State.buffer_congr hspl] using h.takes
    keeps := by simpa only [State.buffer_congr hspl] using h.keeps
    committable := (State.committable_congr hpkb hspl id).trans h.committable
    promised := by rw [hspl, h.promised]
    pvw := by rw [← h.pvw, hans]; rfl
    count := (hcount _ (by decide) (by decide)).trans h.count
    lif := by rw [← h.lif, hans]; rfl
    oft := by rw [← h.oft, hans]; rfl
    sel := by rw [← h.sel, hans]; rfl
    fen := by rw [← h.fen, hans]; rfl
    aru := by rw [← h.aru, hans]; rfl
    run := by rw [← h.run, hans]; rfl }

/-- Settles O32: the entry to CLOSING makes the close test, which holds; the entry to CLOSED follows, then a run of commits. -/
theorem packCloseCompletes : Obligations.PackCloseCompletes := by
  intro id form params s hacc hother ho hready hrun hrestart hfull hcand x free
  have hclose : s.begin.closeAccepting .command = s.begin.closeFor id .command := by
    unfold State.closeAccepting
    rw [show s.begin.accepting = some id from hacc]
  have hexec := exec_closeNow form params hrun hrestart
  rw [hclose] at hexec
  have h := (State.closeFor_hasClosed (s := s.begin) ho .command hrun hready hother).answer
  generalize (s.begin.closeFor id .command).answer .done [] = a at hexec h
  have hsettle : a.settle = a.withWake false :=
    State.settle_noneToAdmit (State.holderFull_congr hfull h.lif) (.inr (by rw [h.oft]; exact hcand))
      (by simp [State.quietNow, h.run, hrun])
  obtain ⟨ms, p, hown, hfiles⟩ := h.own
  have haccepting : (a.withWake false).accepting = none :=
    State.accepting_eq_none (id := id) (by rw [State.withWake_slot, hown]; rfl) (by rw [State.withWake_slot, h.other]; exact hother)
  have hlength : (s.manifestOf id).packLength = seg (x.e + mc x.members.length - 1) + 1 := by simp [State.manifestOf, x]
  refine ⟨a.withWake false, s.manifestOf id, by rw [hexec, hsettle], congrArg Slot.state hown, congrArg Slot.manifest hown,
    (congrArg Slot.e hown).trans rfl, (congrArg (List.map Member.file) (congrArg Slot.members hown)).trans hfiles, rfl, rfl, rfl, hlength,
    (congrArg Slot.taken hown).trans rfl, h.takes, h.keeps, h.committable, h.other, h.promised, haccepting, h.pvw, h.count, h.lif, h.oft, h.sel,
    h.fen, h.aru⟩

end Sys2Proof.Machine

/-! ## The bounds of one state, kept by every step -/

namespace Sys2Proof.Machine

/-! ### Candidates and claims -/

theorem Oft.bounded_of_sublist {x y : Oft} (hy : y.bounded)
    (h : (x.candidates.map fun c => c.file.pair).Sublist (y.candidates.map fun c => c.file.pair)) : x.bounded := by
  obtain ⟨hlen, hnodup⟩ := hy
  have hle := h.length_le
  simp only [List.length_map] at hle
  exact ⟨hle.trans hlen, hnodup.sublist h⟩

theorem Oft.bounded_append {cs : List Candidate} {c : Candidate} (h : Oft.bounded ⟨cs⟩) (hl : cs.length < 1024)
    (hn : ∀ d ∈ cs, d.file.pair ≠ c.file.pair) : Oft.bounded ⟨cs ++ [c]⟩ := by
  refine ⟨by simpa using hl, ?_⟩
  rw [List.map_append, List.nodup_append']
  refine ⟨h.2, List.nodup_singleton _, ?_⟩
  simpa [List.Disjoint] using fun d hd e => hn d hd e

theorem Sel.bounded_of_sublist {x y : Sel} (hy : y.bounded)
    (h : (x.claims.map fun c => c.file.pair).Sublist (y.claims.map fun c => c.file.pair)) : x.bounded := by
  have hle := h.length_le
  simp only [List.length_map] at hle
  exact hle.trans hy

/-! ### Slots -/

/-- A slot that takes an accepting state only from one keeps that at most one slot accepts (R99). -/
theorem State.oneAccepting_setSlot {s : State} {id : SlotId} {x : Slot} (hs : s.pkb.oneAccepting)
    (h : x.state.accepting = true → (s.slot id).state.accepting = true) : (s.setSlot id x).pkb.oneAccepting := by
  cases id with
  | a => exact fun k => hs ⟨h k.1, k.2⟩
  | b => exact fun k => hs ⟨k.1, h k.2⟩

/-- Where a pack can form, no slot accepts (R101). -/
theorem State.not_accepting_of_canForm {s : State} (h : s.canForm = true) (id : SlotId) : (s.slot id).state.accepting = false := by
  have hnone : s.accepting = none := by
    unfold State.canForm at h
    simp only [Bool.and_eq_true, Option.isNone_iff_eq_none] at h
    exact h.1.1.2
  unfold State.accepting at hnone
  split at hnone
  · cases hnone
  · next ha =>
    split at hnone
    · cases hnone
    · next hb =>
      cases id with
      | a => exact Bool.eq_false_iff.2 ha
      | b => exact Bool.eq_false_iff.2 hb

theorem State.recordsFit_of_canForm {s : State} (h : s.canForm = true) : s.mgt.records.length + s.slotsInUse < 32 := by
  unfold State.canForm at h
  simp only [Bool.and_eq_true, decide_eq_true_eq] at h
  exact h.1.2

/-- A slot that forms is the only one that accepts (R99, R101). -/
theorem State.oneAccepting_form {s : State} {id : SlotId} (x : Slot) (h : s.canForm = true) : (s.setSlot id x).pkb.oneAccepting := by
  have ha := State.not_accepting_of_canForm h .a
  have hb := State.not_accepting_of_canForm h .b
  cases id with
  | a => exact fun k => Bool.false_ne_true (hb.symm.trans k.2)
  | b => exact fun k => Bool.false_ne_true (ha.symm.trans k.1)

theorem SlotState.inUse_of_ne_free {x : SlotState} (h : x ≠ .free) : x.inUse = 1 := by
  cases x with
  | free => exact absurd rfl h
  | _ => rfl

theorem SlotState.inUse_le (x : SlotState) : x.inUse ≤ 1 := by cases x <;> decide

/-- Writing one slot changes the count by that slot alone. -/
theorem State.slotsInUse_setSlot (s : State) (id : SlotId) (x : Slot) :
    (s.setSlot id x).slotsInUse + (s.slot id).state.inUse = s.slotsInUse + x.state.inUse := by
  cases id <;> simp only [State.slotsInUse, State.setSlot, State.withPkb, State.slot] <;> omega

/-- A slot that is FREE before is FREE after, so no more slots are in use. -/
theorem State.slotsInUse_setSlot_le {s : State} {id : SlotId} {x : Slot} (h : (s.slot id).state = .free → x.state = .free) :
    (s.setSlot id x).slotsInUse ≤ s.slotsInUse := by
  have hcount := s.slotsInUse_setSlot id x
  have hx := x.state.inUse_le
  by_cases hf : (s.slot id).state = .free
  · rw [hf, h hf] at hcount
    omega
  · rw [SlotState.inUse_of_ne_free hf] at hcount
    omega

/-- A slot written keeps the bounds where it keeps those of the slots and of the records. -/
theorem State.Sound.setSlot {s : State} (h : s.Sound) {id : SlotId} {x : Slot} (hacc : (s.setSlot id x).pkb.oneAccepting)
    (hrec : s.mgt.records.length + (s.setSlot id x).slotsInUse ≤ 32) : (s.setSlot id x).Sound := by
  cases id <;> exact { h with accepting := hacc, records := hrec }

/-- A slot in use that becomes FREE leaves room for one record. -/
theorem State.slotsInUse_clear {s : State} {id : SlotId} (h : (s.slot id).state ≠ .free) :
    (s.setSlot id {}).slotsInUse + 1 = s.slotsInUse := by
  have hcount := s.slotsInUse_setSlot id {}
  rwa [SlotState.inUse_of_ne_free h] at hcount

/-! ### Every move and every turn -/

/-- Every move keeps the bounds. -/
theorem Move.sound {s t : State} (m : Move s t) (h : s.Sound) : t.Sound := by
  cases m with
  | aru x hx => exact { h with releases := hx h.releases }
  | holder x hx => exact { h with holder := hx }
  | oft x hx => exact { h with candidates := Oft.bounded_of_sublist h.candidates hx }
  | listed c hl hn _ => exact { h with candidates := Oft.bounded_append h.candidates hl hn }
  | sel x hx => exact { h with claims := Sel.bounded_of_sublist h.claims hx }
  | admitted c k hc hk hl =>
    have hmax : s.mgt.config.pendingMax ≤ 8 := by have := h.config; unfold ConfigInRange at this; omega
    exact { h with
      candidates := Oft.bounded_of_sublist h.candidates ((dropCandidate_sublist _ _).map _)
      claims := show (s.sel.claims ++ [k]).length ≤ 8 by rw [List.length_append]; exact hl.trans_le hmax }
  | mem m hm => exact { h with memory := hm h.memory }
  | drn x hx => exact { h with window := hx h.window }
  | buffer i x =>
    unfold State.setBuffer
    split
    · exact h
    · exact { h with }
  | slot id x hacc hfree =>
    exact h.setSlot (State.oneAccepting_setSlot h.accepting hacc)
      ((Nat.add_le_add_left (State.slotsInUse_setSlot_le hfree) _).trans h.records)
  | form id x hcan hfree hx =>
    refine h.setSlot (State.oneAccepting_form x hcan) ?_
    have hrec := State.recordsFit_of_canForm hcan
    have hcount := s.slotsInUse_setSlot id x
    rw [hfree, hx, SlotState.inUse, SlotState.inUse] at hcount
    omega
  | done id r hne =>
    have hcleared : (s.setSlot id {}).Sound :=
      h.setSlot (State.oneAccepting_setSlot h.accepting fun k => absurd k Bool.false_ne_true)
        ((Nat.add_le_add_left (State.slotsInUse_setSlot_le fun _ => rfl) _).trans h.records)
    have hrec : s.mgt.records.length + s.slotsInUse ≤ 32 := h.records
    have hcount := State.slotsInUse_clear hne
    have hqueued : ((s.setSlot id {}).queueRecord r).recordsFit := by
      show ((s.setSlot id {}).mgt.records ++ [r]).length + (s.setSlot id {}).slotsInUse ≤ 32
      rw [List.length_append, List.length_singleton, State.setSlot_mgt]
      omega
    have hswap : (s.queueRecord r).setSlot id {} = (s.setSlot id {}).queueRecord r := by cases id <;> rfl
    rw [hswap]
    exact { hcleared with records := hqueued }
  | recordTaken r rest hr =>
    have hrec : s.mgt.records.length + s.slotsInUse ≤ 32 := h.records
    rw [hr, List.length_cons] at hrec
    exact { h with records := (by omega : rest.length + s.slotsInUse ≤ 32) }
  | counter | wake | emitted | pvw | fen | promised | seq | quiet | response | readEnds => exact { h with }

/-- Every turn keeps the bounds. -/
theorem Turn.sound {e : Bool} {s t : State} (m : Turn e s t) (h : s.Sound) : t.Sound := by
  cases m with
  | move m => exact m.sound h
  | mgt m hr hc => exact { h with config := hc h.config, records := by simpa [State.recordsFit, State.slotsInUse, hr] using h.records }
  | tested | newEpoch => exact { h with }

theorem Turns.sound {e : Bool} {s t : State} (m : Turns e s t) (h : s.Sound) : t.Sound := by
  induction m with
  | refl => exact h
  | tail _ m ih => exact m.sound ih

theorem Moves.sound {s t : State} (m : Moves s t) (h : s.Sound) : t.Sound := (m.turns false).sound h

/-! ### Reset, commands and steps -/

/-- The mask of hard reset is one run of all 64 bits (R200). -/
theorem maskValid_allOnes : maskValid (BitVec.allOnes 64) = true := by decide +kernel

/-- The defaults of R199 lie in their ranges. -/
theorem configInRange_default : ConfigInRange {} := by
  refine ⟨by decide, maskValid_allOnes, ?_⟩
  decide

/-- A hard reset meets the bounds, whatever the straps, wherever the memory it keeps is in canonical form (R39). -/
theorem State.sound_hardReset {s : State} (h : s.mem.wf) (straps : Station) : (s.hardReset straps).Sound where
  candidates := ⟨Nat.zero_le _, List.nodup_nil⟩
  claims := Nat.zero_le _
  releases := Nat.zero_le _
  window := Nat.zero_le _
  holder := fun _ k => nomatch k
  config := configInRange_default
  accepting := fun k => Bool.false_ne_true k.1
  records := Nat.zero_le _
  memory := h

/-- Settles O58. -/
theorem soundAtReset : Obligations.SoundAtReset :=
  ⟨State.sound_hardReset (s := State.reset) ⟨List.Pairwise.nil, fun _ k => nomatch k⟩ 0, List.nodup_nil⟩

theorem State.sound_exec {s t : State} (c : Instr) (h : s.Sound) (ht : exec c s = .next t) : t.Sound := by
  by_cases hc : ∃ straps, c = .hardReset straps
  · obtain ⟨straps, rfl⟩ := hc
    cases ht
    exact State.sound_hardReset h.memory straps
  · obtain ⟨u, hu, hturns⟩ := exec_turns c s fun straps k => hc ⟨straps, k⟩
    cases hu.symm.trans ht
    exact hturns.sound h

theorem State.sound_tick {s : State} (h : s.Sound) : s.tick.Sound := by
  unfold State.tick
  split
  · exact { h with }
  · exact h

theorem State.sound_idle {s : State} (h : s.Sound) : s.idle.Sound := by
  rcases s.idle_cases with hhalt | hissue | htick
  · rw [hhalt]
    exact { h with }
  · exact hissue.sound h
  · rw [htick]
    exact State.sound_tick h

/-- Settles O57: a command's run of turns keeps the bounds move by move, a hard reset meets them anew, and so does each of the things
the part does with no command waiting. -/
theorem soundKept : Obligations.SoundKept := by
  intro s t h ht
  unfold step at ht
  split at ht
  · next c rest _ =>
    have hrest : (s.withPending rest).Sound := { h with }
    exact State.sound_exec c hrest ht
  · cases ht
    exact State.sound_idle h

end Sys2Proof.Machine

/-! ## What only HARD_RESET undoes (R39, R100, R153, R198) -/

namespace Sys2Proof.Machine

/-- What lasts from one state to a later one, until a hard reset: the queue of waiting commands and the station number stay, no counter falls,
a RETIRED buffer stays as it is, and the next sequence falls with a new epoch only. -/
structure State.Lasts (epoch : Bool) (s t : State) : Prop where
  pending : t.pending = s.pending
  station : t.lif.station = s.lif.station
  counters : ∀ k, (s.count k).toNat ≤ (t.count k).toNat
  retired : ∀ i, (s.buffer i).state = .retired → t.buffer i = s.buffer i
  nextSeq : epoch = false → s.pkb.nextSeq.toNat ≤ t.pkb.nextSeq.toNat

theorem State.Lasts.refl (epoch : Bool) (s : State) : State.Lasts epoch s s :=
  ⟨rfl, rfl, fun _ => Nat.le_refl _, fun _ _ => rfl, fun _ => Nat.le_refl _⟩

theorem State.Lasts.trans {epoch : Bool} {s t u : State} (h : State.Lasts epoch s t) (k : State.Lasts epoch t u) :
    State.Lasts epoch s u where
  pending := k.pending.trans h.pending
  station := k.station.trans h.station
  counters c := (h.counters c).trans (k.counters c)
  retired i hi := (k.retired i (h.retired i hi ▸ hi)).trans (h.retired i hi)
  nextSeq he := (h.nextSeq he).trans (k.nextSeq he)

/-- A RETIRED buffer is written by nothing (R153). -/
theorem State.setBuffer_retired {s : State} {i : Fin 64} (h : (s.buffer i).state = .retired) (j : Fin 64) (x : Buffer) :
    (s.setBuffer j x).buffer i = s.buffer i := by
  by_cases e : i = j
  · rw [← e, State.setBuffer, if_pos h]
  · exact s.setBuffer_buffer_other e x

/-- Every move leaves what lasts. -/
theorem Move.lasts {s t : State} (m : Move s t) (epoch : Bool) : State.Lasts epoch s t := by
  cases m with
  | counter c => exact { State.Lasts.refl epoch s with counters := s.count_bump_le c }
  | buffer i x =>
    exact { pending := by simp, station := by simp, counters := fun k => by rw [State.count_congr (State.setBuffer_counters s i x)]
            retired := fun j hj => State.setBuffer_retired hj i x, nextSeq := fun _ => by simp }
  | slot id x | form id x => cases id <;> exact { State.Lasts.refl epoch s with }
  | done id r => cases id <;> exact { State.Lasts.refl epoch s with }
  | seq => exact { State.Lasts.refl epoch s with nextSeq := fun _ => saturatingNext_le _ }
  | _ => exact { State.Lasts.refl epoch s with }

/-- Every turn leaves what lasts. -/
theorem Turn.lasts {epoch : Bool} {s t : State} (m : Turn epoch s t) : State.Lasts epoch s t := by
  cases m with
  | move m => exact m.lasts epoch
  | newEpoch h => exact { State.Lasts.refl epoch s with nextSeq := fun he => absurd (h.symm.trans he) (by decide) }
  | mgt | tested => exact { State.Lasts.refl epoch s with }

theorem Turns.lasts {epoch : Bool} {s t : State} (m : Turns epoch s t) : State.Lasts epoch s t := by
  induction m with
  | refl => exact .refl epoch s
  | tail _ m ih => exact ih.trans m.lasts

/-- Settles O60: every command but HARD_RESET is a run of turns, and every turn leaves what lasts. -/
theorem onlyHardReset : Obligations.OnlyHardReset := by
  intro c s t hreset ht
  obtain ⟨u, hu, hturns⟩ := exec_turns c s hreset
  cases hu.symm.trans ht
  have h := hturns.lasts
  refine ⟨h.pending, h.station, h.counters, h.retired, fun hconf hunknown => h.nextSeq ?_⟩
  cases c with
  | configure ps => exact absurd rfl (hconf ps)
  | unknownCommand w => exact absurd rfl (hunknown w)
  | _ => rfl

end Sys2Proof.Machine

/-! ## Reception: the tests of a frame (R24 to R32) -/

namespace Sys2Proof.Machine

/-! ### How a frame is judged -/

section
variable {α : Type} {s : State} {kind : Byte} {f : Frame}

/-- In SELFTEST no frame is heard (R30). -/
theorem State.receive_selftest (h : s.mgt.run = .selftest) (read : Frame → Station → Option α) (handOn : State → Station → α → State) :
    s.receive kind f read handOn = s := if_pos h

/-- A frame that fails the check is a check error (R27). -/
theorem State.receive_checkError (h : s.mgt.run ≠ .selftest) (hc : passesCheck kind f = false) (read : Frame → Station → Option α)
    (handOn : State → Station → α → State) : s.receive kind f read handOn = s.bump .checkErrors := by
  unfold State.receive
  rw [if_neg h, if_pos (by simp [hc])]

/-- A frame that passes the check and has no sender or no readable body is malformed (R28). -/
theorem State.receive_malformed (h : s.mgt.run ≠ .selftest) (hc : passesCheck kind f = true) (read : Frame → Station → Option α)
    (handOn : State → Station → α → State) (hr : ∀ sender, stationOf f.sender = some sender → read f sender = none) :
    s.receive kind f read handOn = s.bump .malformedFrames := by
  unfold State.receive
  rw [if_neg h, if_neg (by simp [hc])]
  cases hs : stationOf f.sender with
  | none => rfl
  | some sender => simp only [hr sender hs]

/-- A readable frame that names this station as its sender is an own-number frame (R29). -/
theorem State.receive_ownNumber (h : s.mgt.run ≠ .selftest) (hc : passesCheck kind f = true) (read : Frame → Station → Option α)
    (handOn : State → Station → α → State) (hs : stationOf f.sender = some s.lif.station) (hr : (read f s.lif.station).isSome = true) :
    s.receive kind f read handOn = s.bump .ownNumberFrames := by
  obtain ⟨x, hx⟩ := Option.isSome_iff_exists.1 hr
  unfold State.receive
  rw [if_neg h, if_neg (by simp [hc])]
  simp only [hs, hx, if_true]

end

/-! ### The readers and the form tests of R28 -/

theorem stationOf_eq_some_iff (b : Byte) (st : Station) : stationOf b = some st ↔ b.toNat = st.val := by
  unfold stationOf
  split
  · simp [Fin.ext_iff]
  · simp only [reduceCtorEq, false_iff]
    omega

theorem stationOf_isSome_iff (b : Byte) : (stationOf b).isSome = true ↔ b.toNat ≤ 31 := by
  unfold stationOf
  split <;> simp <;> omega

theorem stationOfNat_isSome_iff (n : Nat) : (stationOfNat n).isSome = true ↔ n ≤ 31 := by
  unfold stationOfNat
  split <;> simp <;> omega

theorem broadcastForm_iff (f : Frame) : broadcastForm f = true ↔ f.bodyLength.toNat = f.body.length ∧ f.target = 0xFF#8 := by
  unfold broadcastForm broadcast
  rw [Bool.and_eq_true, decide_eq_true_eq, decide_eq_true_eq]

theorem addressedTo_isSome_iff (f : Frame) :
    (addressedTo f).isSome = true ↔ f.bodyLength.toNat = f.body.length ∧ f.target.toNat ≤ 31 := by
  unfold addressedTo
  split
  · simp [stationOf_isSome_iff, *]
  · simp [*]

theorem refuseReason_isSome_iff (n : Nat) : (refuseReason n).isSome = true ↔ 1 ≤ n ∧ n ≤ 3 := by
  match n with
  | 0 | 1 | 2 | 3 => simp [refuseReason]
  | n + 4 => simp [refuseReason]

theorem packPhase_isSome_iff (n : Nat) : (packPhase n).isSome = true ↔ 1 ≤ n ∧ n ≤ 4 := by
  match n with
  | 0 | 1 | 2 | 3 | 4 => simp [packPhase]
  | n + 5 => simp [packPhase]

theorem isSome_ite_none {α : Type} {p : Prop} [Decidable p] {x : Option α} :
    (if p then x else none).isSome = true ↔ p ∧ x.isSome = true := by
  split <;> simp [*]

/-! A frame's body reads exactly when its form is the kind's (R25, R26, R28). -/

section
variable {f : Frame} (h : f.sender.toNat ≤ 31) (st : Station)
include h

theorem readOffer_isSome_iff : (readOffer f st).isSome = true ↔ frameWellFormed 0x21#8 f := by
  simp [readOffer, frameWellFormed, isSome_ite_none, broadcastForm_iff, h, and_assoc]

theorem readWithdraw_isSome_iff : (readWithdraw f st).isSome = true ↔ frameWellFormed 0x22#8 f := by
  simp [readWithdraw, frameWellFormed, isSome_ite_none, broadcastForm_iff, h, and_assoc]

theorem readGrant_isSome_iff : (readGrant f st).isSome = true ↔ frameWellFormed 0x23#8 f := by
  simp [readGrant, frameWellFormed, isSome_ite_none, broadcastForm_iff, stationOfNat_isSome_iff, h, and_assoc]

theorem readRefuse_isSome_iff : (readRefuse f st).isSome = true ↔ frameWellFormed 0x24#8 f := by
  simp only [readRefuse, frameWellFormed, isSome_ite_none, Bool.and_eq_true, decide_eq_true_eq, broadcastForm_iff,
    ← stationOfNat_isSome_iff, ← refuseReason_isSome_iff, h, BitVec.reduceEq, true_and, false_and, or_self, or_false, false_or, and_assoc,
    and_congr_right_iff]
  intro _ _ _
  cases stationOfNat (fieldAt f.body 4 1) <;> cases refuseReason (fieldAt f.body 5 1) <;> simp

theorem readData_isSome_iff : (readData f st).isSome = true ↔ frameWellFormed 0x25#8 f := by
  simp only [readData, frameWellFormed, isSome_ite_none, Bool.and_eq_true, decide_eq_true_eq, Option.isSome_map, addressedTo_isSome_iff,
    h, BitVec.reduceEq, true_and, false_and, or_false, false_or]
  tauto

theorem readClaim_isSome_iff : (readClaim f st).isSome = true ↔ frameWellFormed 0x41#8 f := by
  simp [readClaim, frameWellFormed, isSome_ite_none, broadcastForm_iff, stationOfNat_isSome_iff, h, and_assoc]

theorem readFetch_isSome_iff : (readFetch f st).isSome = true ↔ frameWellFormed 0x42#8 f := by
  simp only [readFetch, frameWellFormed, isSome_ite_none, addressedTo_isSome_iff, h, BitVec.reduceEq, true_and, false_and, or_false,
    false_or]
  tauto

theorem readRelease_isSome_iff : (readRelease f st).isSome = true ↔ frameWellFormed 0x43#8 f := by
  simp only [readRelease, frameWellFormed, isSome_ite_none, Bool.and_eq_true, decide_eq_true_eq, addressedTo_isSome_iff, h,
    BitVec.reduceEq, true_and, false_and, or_false, false_or]
  tauto

theorem readBeacon_isSome_iff : (readBeacon f st).isSome = true ↔ frameWellFormed 0x44#8 f := by
  simp only [readBeacon, frameWellFormed, isSome_ite_none, Bool.and_eq_true, decide_eq_true_eq, broadcastForm_iff, Option.isSome_map,
    packPhase_isSome_iff, h, BitVec.reduceEq, true_and, false_and, false_or]
  tauto

end

/-! ### A frame of any kind -/

/-- The commands of the link hand every frame to the reception of its kind (R25). -/
theorem exec_frameCommand (kind : Byte) (f : Frame) (s : State) :
    exec (frameCommand kind f) s = .next (s.begin.receiveAny kind f) := by
  by_cases hk : kind ∈ kindCodes
  · simp only [kindCodes, List.mem_cons, List.not_mem_nil, or_false] at hk
    rcases hk with rfl | rfl | rfl | rfl | rfl | rfl | rfl | rfl | rfl <;> rfl
  · simp only [kindCodes, List.mem_cons, List.not_mem_nil, or_false, not_or] at hk
    have hcommand : frameCommand kind f = .unknownKindFrame kind f := by simp only [frameCommand, hk, if_false]
    rw [hcommand]
    rfl

/-- Every frame is received by a reader that reads it exactly when it is well formed (R25, R28). -/
theorem State.receiveAny_eq (s : State) (kind : Byte) (f : Frame) :
    ∃ (α : Type) (read : Frame → Station → Option α) (handOn : State → Station → α → State),
      s.receiveAny kind f = s.receive kind f read handOn ∧
      (f.sender.toNat ≤ 31 → ∀ st, (read f st).isSome = true ↔ frameWellFormed kind f) := by
  by_cases hk : kind ∈ kindCodes
  · simp only [kindCodes, List.mem_cons, List.not_mem_nil, or_false] at hk
    rcases hk with rfl | rfl | rfl | rfl | rfl | rfl | rfl | rfl | rfl
    · exact ⟨_, readOffer, _, (rfl : _ = s.receiveOffer f), fun h => readOffer_isSome_iff h⟩
    · exact ⟨_, readWithdraw, _, (rfl : _ = s.receiveWithdraw f), fun h => readWithdraw_isSome_iff h⟩
    · exact ⟨_, readGrant, _, (rfl : _ = s.receiveGrant f), fun h => readGrant_isSome_iff h⟩
    · exact ⟨_, readRefuse, _, (rfl : _ = s.receiveRefuse f), fun h => readRefuse_isSome_iff h⟩
    · exact ⟨_, readData, _, (rfl : _ = s.receiveData f), fun h => readData_isSome_iff h⟩
    · exact ⟨_, readClaim, _, (rfl : _ = s.receiveClaim f), fun h => readClaim_isSome_iff h⟩
    · exact ⟨_, readFetch, _, (rfl : _ = s.receiveFetch f), fun h => readFetch_isSome_iff h⟩
    · exact ⟨_, readRelease, _, (rfl : _ = s.receiveRelease f), fun h => readRelease_isSome_iff h⟩
    · exact ⟨_, readBeacon, _, (rfl : _ = s.receiveBeacon f), fun h => readBeacon_isSome_iff h⟩
  · simp only [kindCodes, List.mem_cons, List.not_mem_nil, or_false, not_or] at hk
    refine ⟨Unit, fun _ _ => none, fun s _ _ => s, ?_, fun _ st => ?_⟩
    · simp only [State.receiveAny, hk, if_false]
    · simp [frameWellFormed, hk]

/-- In SELFTEST no frame of any kind is heard (R30). -/
theorem State.receiveAny_selftest {s : State} (h : s.mgt.run = .selftest) (kind : Byte) (f : Frame) : s.receiveAny kind f = s := by
  obtain ⟨α, read, handOn, hany, -⟩ := s.receiveAny_eq kind f
  rw [hany]
  exact State.receive_selftest h read handOn

theorem State.receiveAny_checkError {s : State} (h : s.mgt.run ≠ .selftest) {kind : Byte} {f : Frame}
    (hc : passesCheck kind f = false) : s.receiveAny kind f = s.bump .checkErrors := by
  obtain ⟨α, read, handOn, hany, -⟩ := s.receiveAny_eq kind f
  rw [hany]
  exact State.receive_checkError h hc read handOn

theorem State.receiveAny_malformed {s : State} (h : s.mgt.run ≠ .selftest) {kind : Byte} {f : Frame} (hc : passesCheck kind f = true)
    (hw : ¬ frameWellFormed kind f) : s.receiveAny kind f = s.bump .malformedFrames := by
  obtain ⟨α, read, handOn, hany, hread⟩ := s.receiveAny_eq kind f
  rw [hany]
  refine State.receive_malformed h hc read handOn fun sender hs => ?_
  have hsender : f.sender.toNat ≤ 31 := (stationOf_isSome_iff _).1 (by rw [hs]; rfl)
  exact Option.not_isSome_iff_eq_none.1 fun k => hw ((hread hsender sender).1 k)

theorem State.receiveAny_ownNumber {s : State} (h : s.mgt.run ≠ .selftest) {kind : Byte} {f : Frame} (hc : passesCheck kind f = true)
    (hw : frameWellFormed kind f) (hown : f.sender.toNat = s.lif.station.val) : s.receiveAny kind f = s.bump .ownNumberFrames := by
  obtain ⟨α, read, handOn, hany, hread⟩ := s.receiveAny_eq kind f
  rw [hany]
  exact State.receive_ownNumber h hc read handOn ((stationOf_eq_some_iff _ _).2 hown) ((hread hw.1 _).2 hw)

/-- Settles O6: the tests of reception are made in the order of R27 to R30, whatever the kind. -/
theorem frameJudged : Obligations.FrameJudged := by
  intro kind f s
  rw [exec_frameCommand]
  refine ⟨fun h => ?_, fun h hc => ?_, fun h hc hw => ?_, fun h hc hw hown => ?_⟩
  · rw [State.receiveAny_selftest (s := s.begin) h]
  · rw [State.receiveAny_checkError (s := s.begin) h hc]
  · rw [State.receiveAny_malformed (s := s.begin) h hc hw]
  · rw [State.receiveAny_ownNumber (s := s.begin) h hc hw hown]

/-! ### Frames passed over (R32) -/

/-- A DATA that reads is addressed to the station its target byte names (R24, R26). -/
theorem readData_target {f : Frame} {sender st : Station} {d : DataBody} (h : readData f sender = some (st, d)) :
    f.target.toNat = st.val := by
  unfold readData at h
  dsimp only at h
  split at h
  · rw [Option.map_eq_some_iff] at h
    obtain ⟨st', hst, heq⟩ := h
    cases heq
    unfold addressedTo at hst
    split at hst
    · exact (stationOf_eq_some_iff _ _).1 hst
    · cases hst
  · cases h

theorem State.accepts_sender {s : State} {kind : Byte} {f : Frame} {sender : Station} (h : s.accepts kind f sender) :
    f.sender.toNat ≤ 31 := by
  obtain ⟨-, -, hs, -⟩ := h
  exact (stationOf_isSome_iff _).1 (by rw [hs]; rfl)

/-- Settles O7: the hand-over of each of these frames is one count. -/
theorem passedOver : Obligations.PassedOver := by
  intro f sender s t
  refine ⟨fun ha hw => ?_, fun ha hw => ?_, fun ha hw hother => ?_⟩
  · obtain ⟨x, hx⟩ := Option.isSome_iff_exists.1 ((readFetch_isSome_iff (State.accepts_sender ha) sender).2 hw)
    exact congrArg Host.Outcome.next (State.receive_accepted _ _ (State.accepts_begin ha) hx)
  · obtain ⟨x, hx⟩ := Option.isSome_iff_exists.1 ((readRelease_isSome_iff (State.accepts_sender ha) sender).2 hw)
    exact congrArg Host.Outcome.next (State.receive_accepted _ _ (State.accepts_begin ha) hx)
  · obtain ⟨⟨st, d⟩, hx⟩ := Option.isSome_iff_exists.1 ((readData_isSome_iff (State.accepts_sender ha) sender).2 hw)
    have hst : st ≠ s.lif.station := fun e => hother (e ▸ readData_target hx)
    have hrec : s.begin.receiveData f = if st = s.lif.station then _ else t :=
      State.receive_accepted _ _ (State.accepts_begin ha) hx
    rw [if_neg hst] at hrec
    exact congrArg Host.Outcome.next hrec

end Sys2Proof.Machine

/-! ## Delimited bytes (R24, R27) -/

namespace Sys2Proof.Machine

/-- A field's bytes are the bytes it was read from. -/
theorem le_ofLe (bs : List Byte) : le bs.length (ofLe bs) = bs := by
  induction bs with
  | nil => rfl
  | cons b bs ih =>
    have hb := b.isLt
    have hlow : BitVec.ofNat 8 (b.toNat + 256 * ofLe bs) = b := BitVec.eq_of_toNat_eq (by simp; omega)
    have hhigh : (b.toNat + 256 * ofLe bs) / 256 = ofLe bs := by omega
    rw [List.length_cons, ofLe, le, hlow, hhigh, ih]

theorem le_fieldAt {bs : List Byte} {off len : Nat} (h : off + len ≤ bs.length) :
    le len (fieldAt bs off len) = (bs.drop off).take len := by
  have hl : ((bs.drop off).take len).length = len := by simp; omega
  calc le len (fieldAt bs off len) = le ((bs.drop off).take len).length (ofLe ((bs.drop off).take len)) := by rw [hl, fieldAt]
    _ = _ := le_ofLe _

/-- A field as wide as its word is the word's number. -/
theorem toNat_ofNat_fieldAt {w len : Nat} (bs : List Byte) (off : Nat) (hw : 2 ^ w = 256 ^ len) :
    (BitVec.ofNat w (fieldAt bs off len)).toNat = fieldAt bs off len := by
  rw [BitVec.toNat_ofNat, hw]
  exact Nat.mod_eq_of_lt (fieldAt_lt bs off len)

theorem ofNat_fieldAt_byte {bs : List Byte} {off : Nat} (h : off < bs.length) : BitVec.ofNat 8 (fieldAt bs off 1) = bs[off] := by
  have hle := le_fieldAt (bs := bs) (off := off) (len := 1) h
  rw [List.drop_eq_getElem_cons h] at hle
  exact (List.cons.inj hle).1

/-- Bytes too short for a header and a check delimit no frame (R27). -/
theorem splitFrame_short {bs : List Byte} (h : bs.length < 9) : splitFrame bs = none := if_neg (by omega)

/-- The frame that bytes delimit covers all of them but the last four, which are its check (R24). -/
theorem splitFrame_long {bs : List Byte} (h : 9 ≤ bs.length) :
    ∃ kind f, splitFrame bs = some (kind, f) ∧ f.body.length = bs.length - 9 ∧
      coveredBytes kind f = bs.take (bs.length - 4) ∧ le 4 f.check.toNat = bs.drop (bs.length - 4) := by
  refine ⟨_, _, if_pos h, by simp; omega, ?_, ?_⟩
  · simp only [coveredBytes, headerBytes]
    rw [toNat_ofNat_fieldAt _ _ (by decide), le_fieldAt (by omega), ofNat_fieldAt_byte (by omega), ofNat_fieldAt_byte (by omega),
      ofNat_fieldAt_byte (by omega)]
    have hbytes : [bs[0], bs[1], bs[2]] = bs.take 3 := by
      match bs, h with
      | _ :: _ :: _ :: _, _ => rfl
    rw [hbytes, show bs.length - 4 = 3 + 2 + (bs.length - 9) by omega, List.take_add, List.take_add]
  · dsimp only
    rw [toNat_ofNat_fieldAt _ _ (by decide), le_fieldAt (by omega), List.take_of_length_le (by simp; omega)]

theorem passesCheck_iff (kind : Byte) (f : Frame) :
    passesCheck kind f = true ↔ 9 + f.body.length ≤ 4209 ∧ crc32 (coveredBytes kind f) = f.check := by
  unfold passesCheck
  rw [Bool.and_eq_true, decide_eq_true_eq, decide_eq_true_eq]

/-- The length and check test of a delimited frame, read from its bytes (R27). -/
theorem passesCheck_iff_bytes {bs : List Byte} (h : 9 ≤ bs.length) {kind : Byte} {f : Frame}
    (hlen : f.body.length = bs.length - 9) (hcov : coveredBytes kind f = bs.take (bs.length - 4))
    (hcheck : le 4 f.check.toNat = bs.drop (bs.length - 4)) :
    passesCheck kind f = true ↔
      bs.length ≤ 4209 ∧ (crc32 (bs.take (bs.length - 4))).toNat = ofLe (bs.drop (bs.length - 4)) := by
  have hnum : ofLe (bs.drop (bs.length - 4)) = f.check.toNat := by
    rw [← hcheck, ofLe_le]
    exact Nat.mod_eq_of_lt f.check.isLt
  rw [passesCheck_iff, hlen, hcov, hnum, BitVec.toNat_inj]
  refine and_congr_left' ?_
  omega

/-- Settles O5: bytes delimit a frame whose check test is theirs, and a frame that fails it is counted. -/
theorem checkErrorFrame : Obligations.CheckErrorFrame := by
  intro bytes s hrun
  have hexec : exec (.checkErrorFrame bytes) s = .next (s.begin.receiveBytes bytes) := rfl
  refine ⟨fun hfails => ?_, fun h9 hmax hcrc => ?_⟩
  · rw [hexec]
    by_cases h9 : 9 ≤ bytes.length
    · obtain ⟨kind, f, hsplit, hlen, hcov, hcheck⟩ := splitFrame_long h9
      have hbad : passesCheck kind f = false := by
        rw [Bool.eq_false_iff, ne_eq, passesCheck_iff_bytes h9 hlen hcov hcheck]
        rintro ⟨hmax, hcrc⟩
        rcases hfails with hshort | hlong | hne
        · omega
        · omega
        · exact hne hcrc
      simp only [State.receiveBytes, hsplit]
      rw [State.receiveAny_checkError (s := s.begin) hrun hbad]
    · simp only [State.receiveBytes, splitFrame_short (Nat.lt_of_not_le h9)]
      rw [if_neg (show ¬ s.begin.mgt.run = .selftest from hrun)]
  · obtain ⟨kind, f, hsplit, hlen, hcov, hcheck⟩ := splitFrame_long h9
    refine ⟨kind, f, (passesCheck_iff_bytes h9 hlen hcov hcheck).2 ⟨hmax, hcrc⟩, ?_, ?_⟩
    · calc coveredBytes kind f ++ le 4 f.check.toNat = bytes.take (bytes.length - 4) ++ bytes.drop (bytes.length - 4) := by
            rw [hcov, hcheck]
        _ = bytes := List.take_append_drop _ _
    · rw [hexec, exec_frameCommand]
      simp only [State.receiveBytes, hsplit]

end Sys2Proof.Machine

/-! ## Encodings read back (R24 to R28, R199) -/

namespace Sys2Proof.Machine

/-! ### Frames -/

/-- The bytes of a frame of this station, cut at its fields (R24). -/
theorem formFrame_eq (kind : Byte) (st : Station) (target : Byte) (body : List Byte) :
    formFrame kind st target body =
      ([kind, stationByte st, target] ++ le 2 body.length) ++
        (body ++ le 4 (arrivingFrame kind st target body).check.toNat) := by
  simp [formFrame, headerBytes, arrivingFrame, stationByte]

/-- A formed frame delimits as the frame that arrives from its sender (R24). -/
theorem splitFrame_formFrame (kind : Byte) (st : Station) (target : Byte) (body : List Byte) :
    splitFrame (formFrame kind st target body) = some (kind, arrivingFrame kind st target body) := by
  have hlen : (formFrame kind st target body).length = 9 + body.length := by
    rw [formFrame_eq]; simp; omega
  have hcheck : fieldAt (formFrame kind st target body) (5 + body.length) 4 = (arrivingFrame kind st target body).check.toNat := by
    rw [formFrame_eq, fieldAt_skip _ _ _ _ (by simp), fieldAt_skip _ _ _ _ (by simp)]
    simp only [List.length_append, List.length_cons, List.length_nil, le_length, Nat.zero_add, Nat.reduceAdd, Nat.add_sub_cancel_left,
      Nat.sub_self]
    rw [fieldAt_alone]
    exact Nat.mod_eq_of_lt (BitVec.isLt _)
  have hsize : fieldAt (formFrame kind st target body) 3 2 = body.length % 2 ^ 16 := by
    rw [formFrame_eq]
    exact fieldAt_front 2 _ _
  have hbody : ((formFrame kind st target body).drop 5).take body.length = body := by
    rw [formFrame_eq, List.drop_left' (by simp), List.take_left]
  have hkind : fieldAt (formFrame kind st target body) 0 1 = kind.toNat := fieldAt_cons_zero ..
  have hsender : fieldAt (formFrame kind st target body) 1 1 = (stationByte st).toNat := fieldAt_cons_zero ..
  have htarget : fieldAt (formFrame kind st target body) 2 1 = target.toNat := fieldAt_cons_zero ..
  unfold splitFrame
  rw [if_pos (by omega), hlen, show 9 + body.length - 4 = 5 + body.length by omega, hcheck, hsize, Nat.add_sub_cancel_left, hbody, hkind,
    hsender, htarget]
  have hword : BitVec.ofNat 16 (body.length % 2 ^ 16) = BitVec.ofNat 16 body.length := BitVec.eq_of_toNat_eq (by simp)
  simp only [hword, BitVec.ofNat_toNat, BitVec.setWidth_eq, arrivingFrame]

section
variable (kind : Byte) (st : Station) {target : Byte} {body : List Byte}

theorem stationOf_stationByte : stationOf (stationByte st) = some st := by
  rw [stationOf_eq_some_iff]
  have := st.isLt
  simp [stationByte]
  omega

theorem bodyLength_arrivingFrame (h : body.length < 2 ^ 16) : (arrivingFrame kind st target body).bodyLength.toNat = body.length := by
  simpa [arrivingFrame] using h

theorem passesCheck_arrivingFrame (h : body.length ≤ 4200) : passesCheck kind (arrivingFrame kind st target body) = true := by
  rw [passesCheck_iff]
  refine ⟨Nat.add_le_add_left h 9, ?_⟩
  unfold coveredBytes
  rw [bodyLength_arrivingFrame kind st (by omega)]
  rfl

theorem broadcastForm_arrivingFrame (h : body.length < 2 ^ 16) : broadcastForm (arrivingFrame kind st 0xFF#8 body) = true := by
  rw [broadcastForm_iff]
  exact ⟨bodyLength_arrivingFrame kind st h, rfl⟩

theorem addressedTo_arrivingFrame (dest : Station) (h : body.length < 2 ^ 16) :
    addressedTo (arrivingFrame kind st (stationByte dest) body) = some dest :=
  (if_pos (bodyLength_arrivingFrame kind st h)).trans (stationOf_stationByte dest)

end

theorem stationOfNat_val (st : Station) : stationOfNat st.val = some st := dif_pos st.isLt

theorem ticketAt_of_fieldAt {b : List Byte} {off : Nat} {t : Word32} (h : fieldAt b off 4 = t.toNat) : ticketAt b off = t := by
  rw [ticketAt, h, BitVec.ofNat_toNat, BitVec.setWidth_eq]

theorem stationByte_toNat (st : Station) : (stationByte st).toNat = st.val := (stationOf_eq_some_iff _ _).1 (stationOf_stationByte st)

/-- A CLAIM reads as its pair, and its sequence stands behind it (R26). -/
theorem claimFrame_reads (st : Station) (p : FilePair) (seq : Word32) :
    ∃ f, splitFrame (claimFrame st p seq) = some (0x41#8, f) ∧ readClaim f st = some p ∧ ticketAt f.body 5 = seq := by
  refine ⟨_, splitFrame_formFrame .., ?_, ticketAt_of_fieldAt ?_⟩
  · have hsource : fieldAt ([stationByte p.source] ++ le 4 p.ticket.toNat ++ le 4 seq.toNat) 0 1 = p.source.val := by
      simp [fieldAt_cons_zero, stationByte_toNat]
    have hticket : ticketAt ([stationByte p.source] ++ le 4 p.ticket.toNat ++ le 4 seq.toNat) 1 = p.ticket := by
      refine ticketAt_of_fieldAt ?_
      simp (disch := simp) only [fieldAt_left, fieldAt_skip]
      simp [fieldAt_alone]
      omega
    unfold readClaim
    rw [if_pos (by rw [Bool.and_eq_true]; exact ⟨broadcastForm_arrivingFrame _ st (by simp), by simp [arrivingFrame]⟩)]
    simp only [arrivingFrame, hsource, hticket, stationOfNat_val]
    rfl
  · simp (disch := simp) only [arrivingFrame, fieldAt_skip]
    simp [fieldAt_alone]
    omega

/-- A FETCH is addressed to the source, with its ticket (R26). -/
theorem fetchFrame_reads (st : Station) (p : FilePair) :
    ∃ f, splitFrame (fetchFrame st p) = some (0x42#8, f) ∧ readFetch f st = some p.source ∧ ticketAt f.body 0 = p.ticket := by
  refine ⟨_, splitFrame_formFrame .., ?_, ticketAt_of_fieldAt ?_⟩
  · exact (if_pos (by simp [arrivingFrame])).trans (addressedTo_arrivingFrame _ st _ (by simp))
  · exact (fieldAt_alone 4 _).trans (Nat.mod_eq_of_lt p.ticket.isLt)

theorem ReleaseReason.code_range (r : ReleaseReason) : 1 ≤ r.code ∧ r.code ≤ 6 := by
  cases r <;> decide

/-- A RELEASE is addressed to the source, with its ticket and reason (R26). -/
theorem releaseFrame_reads (st : Station) (r : Release) :
    ∃ f, splitFrame (releaseFrame st r) = some (0x43#8, f) ∧ readRelease f st = some r.pair.source ∧
      ticketAt f.body 0 = r.pair.ticket ∧ fieldAt f.body 4 1 = r.reason.code := by
  have hcode := r.reason.code_range
  have hreason : fieldAt (le 4 r.pair.ticket.toNat ++ le 1 r.reason.code) 4 1 = r.reason.code := by
    rw [fieldAt_skip _ _ _ _ (by simp)]
    simp [fieldAt_alone]
    omega
  refine ⟨_, splitFrame_formFrame .., ?_, ticketAt_of_fieldAt ?_, hreason⟩
  · refine (if_pos ?_).trans (addressedTo_arrivingFrame _ st _ (by simp))
    simp [arrivingFrame, hreason, hcode]
  · exact (fieldAt_front 4 _ _).trans (Nat.mod_eq_of_lt r.pair.ticket.isLt)

theorem packPhase_code (p : PackPhase) : packPhase p.code = some p := by cases p <;> rfl

/-- The body of a BEACON (R26). -/
def BeaconItem.body (x : BeaconItem) : List Byte :=
  le 4 x.epoch.toNat ++ le 4 x.seq.toNat ++ le 1 x.phase.code ++ le 8 x.key.toNat ++ le 4 x.fill ++ le 2 x.members

theorem beaconFrame_eq (st : Station) (x : BeaconItem) : beaconFrame st x = formFrame 0x44#8 st 0xFF#8 x.body := rfl

theorem BeaconItem.body_fields {x : BeaconItem} (hfill : x.fill < 2 ^ 32) (hmembers : x.members ≤ 4096) :
    x.body.length = 23 ∧ fieldAt x.body 0 4 = x.epoch.toNat ∧ fieldAt x.body 4 4 = x.seq.toNat ∧ fieldAt x.body 8 1 = x.phase.code ∧
      fieldAt x.body 9 8 = x.key.toNat ∧ fieldAt x.body 17 4 = x.fill ∧ fieldAt x.body 21 2 = x.members := by
  have hcode : x.phase.code < 256 := by cases x.phase <;> decide
  unfold BeaconItem.body
  simp (disch := simp) only [fieldAt_left, fieldAt_skip]
  simp [fieldAt_alone]
  omega

/-- A BEACON reads as its phase, key and fill, and its other fields stand at their places (R26). -/
theorem beaconFrame_reads (st : Station) (x : BeaconItem) (hfill : x.fill < 2 ^ 32) (hmembers : x.members ≤ 4096) :
    ∃ f, splitFrame (beaconFrame st x) = some (0x44#8, f) ∧ readBeacon f st = some (x.phase, x.key, x.fill) ∧
      ticketAt f.body 0 = x.epoch ∧ ticketAt f.body 4 = x.seq ∧ fieldAt f.body 21 2 = x.members := by
  obtain ⟨hlen, hepoch, hseq, hphase, hkey, hfill, hmem⟩ := BeaconItem.body_fields hfill hmembers
  rw [beaconFrame_eq]
  refine ⟨_, splitFrame_formFrame .., ?_, ticketAt_of_fieldAt hepoch, ticketAt_of_fieldAt hseq, hmem⟩
  unfold readBeacon
  rw [if_pos]
  · simp [arrivingFrame, hphase, hkey, hfill, packPhase_code]
  · rw [broadcastForm_arrivingFrame _ st (by omega)]
    simp [arrivingFrame, hlen, hmem, hmembers]

/-- The body of the OFFER a source forms from a file's fields (R26). -/
def FileInfo.offerBody (x : FileInfo) : List Byte :=
  le 4 x.pair.ticket.toNat ++ le 8 x.tag.toNat ++ le 4 x.size ++ le 4 x.crc.toNat ++ le 1 x.cls ++ le 1 x.name.length ++ x.name

theorem FileInfo.offerBody_fields {x : FileInfo} (hsize : x.size < 2 ^ 32) (hcls : x.cls ≤ 15) (hname : x.name.length ≤ 200) :
    x.offerBody.length = 22 + x.name.length ∧ fieldAt x.offerBody 0 4 = x.pair.ticket.toNat ∧ fieldAt x.offerBody 4 8 = x.tag.toNat ∧
      fieldAt x.offerBody 12 4 = x.size ∧ fieldAt x.offerBody 16 4 = x.crc.toNat ∧ fieldAt x.offerBody 20 1 = x.cls ∧
      fieldAt x.offerBody 21 1 = x.name.length ∧ x.offerBody.drop 22 = x.name := by
  unfold FileInfo.offerBody
  refine ⟨by simp; omega, ?_⟩
  rw [List.drop_left' (by simp)]
  simp (disch := simp) only [fieldAt_left, fieldAt_skip]
  simp [fieldAt_alone]
  omega

/-- An OFFER formed from a file's fields by its source reads as the file (R26). -/
theorem readOffer_offerBody (x : FileInfo) (hsize : x.size < 2 ^ 32) (hcls : x.cls ≤ 15) (hname : x.name.length ≤ 200) :
    readOffer (arrivingFrame 0x21#8 x.pair.source 0xFF#8 x.offerBody) x.pair.source = some x := by
  obtain ⟨hlen, hticket, htag, hsz, hcrc, hcl, hnl, hnm⟩ := FileInfo.offerBody_fields hsize hcls hname
  unfold readOffer
  dsimp only
  rw [if_pos]
  · simp [arrivingFrame, ticketAt_of_fieldAt hticket, htag, hsz, hcrc, hcl, hnm]
  · rw [broadcastForm_arrivingFrame _ _ (by omega)]
    simp [arrivingFrame, hlen, hnl, hname, hcl, hcls]

/-! ### The configuration record -/

theorem clamp_of_mem {lo hi n : Nat} (hlo : lo ≤ n) (hhi : n ≤ hi) : clamp lo hi n = n := by
  unfold clamp; omega

/-- A record in range reads back from its 43 bytes (R199). -/
theorem readConfig_configBytes {c : ConfigRecord} (h : ConfigInRange c) : (configBytes c).length = 43 ∧ readConfig (configBytes c) = c := by
  refine ⟨by simp [configBytes], ?_⟩
  obtain ⟨hrot, -, hlim, hlim', hmargin, hstray, hfloor, hsecs, hsecs', hclaim, hclaim', hpend, hpend', hfetch, hfetch', hslots, hslots',
    hage, hage', hdrain, hdrain'⟩ := h
  have hpurge : decide (1 ≤ (flagByte c.purge).toNat) = c.purge := by cases c.purge <;> rfl
  unfold readConfig configBytes ticketAt
  simp (disch := simp) only [fieldAt_left, fieldAt_skip]
  simp (disch := omega) [fieldAt_alone, fieldAt_cons_zero, Nat.mod_eq_of_lt, clamp_of_mem, hpurge, -flagByte_toNat]

/-- Settles O56: each frame delimits as the frame its sender's bytes spell, and each field is read at the place it was written. -/
theorem encodingsReadBack : Obligations.EncodingsReadBack := by
  refine ⟨fun st => ⟨fun kind target body hbody => ?_, claimFrame_reads st, fetchFrame_reads st, releaseFrame_reads st,
    beaconFrame_reads st, ?_⟩, fun c => readConfig_configBytes⟩
  · exact ⟨splitFrame_formFrame kind st target body, passesCheck_arrivingFrame kind st hbody, stationOf_stationByte st,
      bodyLength_arrivingFrame kind st (by omega)⟩
  · rintro x rfl
    exact readOffer_offerBody x

end Sys2Proof.Machine

/-! ## HARD_RESET (R39) -/

namespace Sys2Proof.Machine

/-- Settles O3: the fields are those of the state after reset; the vectors are read element by element. -/
theorem hardReset : Obligations.HardReset := by
  intro straps s
  have hslots (i : Fin 4) : (s.hardReset straps).fen.slots[i] = none := by simp [State.hardReset, State.reset]
  have hbuffers (i : Fin 64) : (s.hardReset straps).buffer i = ⟨.free, none⟩ := by simp [State.buffer, State.hardReset, State.reset]
  have hcounters (c : Ctr) : (s.hardReset straps).count c = 0 := by simp [State.count, State.hardReset, State.reset]
  refine ⟨s.hardReset straps, rfl, rfl, rfl, rfl, rfl, rfl, rfl, rfl, rfl, rfl, rfl, rfl, rfl, rfl, hslots, hbuffers, rfl, rfl, rfl, rfl, rfl,
    rfl, rfl, rfl, rfl, rfl, rfl, rfl, rfl, rfl, rfl, rfl, rfl, rfl, hcounters, rfl, rfl, rfl, rfl⟩

end Sys2Proof.Machine

/-! ## The holder left EMPTY (R34 to R37) -/

namespace Sys2Proof.Machine

/-! ### What the arbiter takes up -/

section
variable {s : State}

/-- With the holder EMPTY the arbiter chooses (R36). -/
theorem State.arbitrate_empty (hfree : s.lif.holder = none) (hrun : s.mgt.run ≠ .selftest) : s.arbitrate = s.arbiterChoice := by
  unfold State.arbitrate
  rw [if_neg (by simp [hrun, hfree])]

theorem State.arbiterChoice_release {r : Release} {rest : List Release} (h : s.aru.releases = r :: rest) :
    s.arbiterChoice = s.takeRelease r rest := by
  simp only [State.arbiterChoice, h]

theorem State.arbiterChoice_fetch {i : Fin 4} {rest : List (Fin 4)} (hr : s.aru.releases = []) (h : s.fen.items = i :: rest) :
    s.arbiterChoice = s.takeFetchItem i rest := by
  simp only [State.arbiterChoice, hr, h]

theorem State.takeFetchItem_of_busy {i : Fin 4} {rest : List (Fin 4)} {x : Fetch} (hx : s.fen.slots[i] = some x) :
    s.takeFetchItem i rest =
      (((s.withFen { s.fen with items := rest }).setFetch i
        (some { x with phase := .receiving (s.now + s.mgt.config.fetchTimeout) })).bump .fetchesSent).hold
        (fetchFrame s.lif.station x.pair) := by
  unfold State.takeFetchItem
  simp only [State.withFen_fen, hx]
  rfl

theorem State.arbiterChoice_claim {c : Claim} (hr : s.aru.releases = []) (hf : s.fen.items = [])
    (hs : s.mgt.run = .run ∨ s.mgt.run = .quiescing) (h : s.sel.claims.find? Claim.isWaiting = some c) :
    s.arbiterChoice = s.takeClaim c := by
  simp only [State.arbiterChoice, hr, hf, if_pos hs, h]

theorem State.arbiterChoice_beacon {x : BeaconItem} {rest : List BeaconItem} (hr : s.aru.releases = []) (hf : s.fen.items = [])
    (hs : s.mgt.run = .run ∨ s.mgt.run = .quiescing) (hc : s.sel.claims.find? Claim.isWaiting = none) (h : s.pvw.items = x :: rest) :
    s.arbiterChoice = s.takeBeacon x rest := by
  simp only [State.arbiterChoice, hr, hf, if_pos hs, hc, h]

/-- With nothing ready, or nothing that may be sent in this run state, the holder stays EMPTY (R37). -/
theorem State.arbiterChoice_none (hr : s.aru.releases = []) (hf : s.fen.items = [])
    (h : ¬ (s.mgt.run = .run ∨ s.mgt.run = .quiescing) ∨ (s.sel.claims.find? Claim.isWaiting = none ∧ s.pvw.items = [])) :
    s.arbiterChoice = s := by
  simp only [State.arbiterChoice, hr, hf]
  rcases h with hs | ⟨hc, hi⟩
  · rw [if_neg hs]
  · simp only [hc, hi, ite_self]

/-! ### What follows a taken beacon (R63) -/

/-- A beacon of the accepting pack OPEN or CLOSING restarts the timer. -/
theorem State.beaconTaken_own {id : SlotId} {x : BeaconItem} (hacc : s.accepting = some id) (hslot : x.slot = id)
    (hseq : x.seq = (s.slot id).seq) (hp : x.phase.holding = true) :
    s.beaconTaken x = s.withPvw { s.pvw with timer := some (s.now + s.mgt.config.beaconSecs * 1000) } := by
  simp only [State.beaconTaken, hacc]
  rw [if_pos ⟨hslot, hseq⟩, if_pos hp]

/-- A beacon of another pack triggers one of the accepting pack. -/
theorem State.beaconTaken_other {id : SlotId} {x : BeaconItem} (hacc : s.accepting = some id)
    (h : ¬ (x.slot = id ∧ x.seq = (s.slot id).seq)) : s.beaconTaken x = s.triggerAccepting := by
  simp only [State.beaconTaken, hacc]
  rw [if_neg h]

theorem State.beaconTaken_none {x : BeaconItem} (hacc : s.accepting = none) : s.beaconTaken x = s := by
  simp only [State.beaconTaken, hacc]

theorem State.triggerAccepting_forming {id : SlotId} (hacc : s.accepting = some id) (h : (s.slot id).state = .forming) :
    s.triggerAccepting = s := by
  simp only [State.triggerAccepting, hacc, h]

/-- The trigger of an OPEN or CLOSING accepting pack makes its item and stops the timer, unless its expiry is due (R63, R65). -/
theorem State.triggerAccepting_beaconing {id : SlotId} (hacc : s.accepting = some id)
    (h : (s.slot id).state = .opened ∨ (s.slot id).state = .closing) (hs : s.mgt.run = .run ∨ s.mgt.run = .quiescing) :
    s.triggerAccepting = s.withPvw
      { s.pvw with
        items := putItem (s.beaconItem id (if (s.slot id).state = .opened then .opened else .closing)) s.pvw.items
        timer := s.pvw.timer.filter (· ≤ s.now) } := by
  rcases h with h | h
  · simp only [State.triggerAccepting, hacc, h, State.triggerBeacon, if_pos hs]
    rfl
  · simp only [State.triggerAccepting, hacc, h, State.triggerBeacon, if_pos hs]
    rfl

/-- The state in which a beacon's taking has its consequences: the item gone and its frame held. -/
def State.beaconHeld (s : State) (x : BeaconItem) (rest : List BeaconItem) : State :=
  (s.withPvw { s.pvw with items := rest }).hold (beaconFrame s.lif.station x)

theorem State.takeBeacon_eq (x : BeaconItem) (rest : List BeaconItem) : s.takeBeacon x rest = (s.beaconHeld x rest).beaconTaken x := rfl

theorem State.takeBeacon_own {id : SlotId} {x : BeaconItem} (rest : List BeaconItem) (hacc : s.accepting = some id) (hslot : x.slot = id)
    (hseq : x.seq = (s.slot id).seq) (hp : x.phase.holding = true) :
    s.takeBeacon x rest = (s.hold (beaconFrame s.lif.station x)).withPvw
      { s.pvw with items := rest, timer := some (s.now + s.mgt.config.beaconSecs * 1000) } :=
  State.beaconTaken_own (s := s.beaconHeld x rest) hacc hslot hseq hp

/-- A beacon taken while the accepting pack, if there is one, is another that is FORMING is followed by nothing. -/
theorem State.takeBeacon_silent {x : BeaconItem} (rest : List BeaconItem)
    (h : ∀ id, s.accepting = some id → (s.slot id).state = .forming ∧ ¬ (x.slot = id ∧ x.seq = (s.slot id).seq)) :
    s.takeBeacon x rest = (s.hold (beaconFrame s.lif.station x)).withPvw { s.pvw with items := rest } := by
  rw [State.takeBeacon_eq]
  cases hacc : s.accepting with
  | none => exact State.beaconTaken_none (s := s.beaconHeld x rest) hacc
  | some id =>
    obtain ⟨hforming, hother⟩ := h id hacc
    rw [State.beaconTaken_other (s := s.beaconHeld x rest) hacc hother]
    exact State.triggerAccepting_forming (s := s.beaconHeld x rest) hacc hforming

theorem State.takeBeacon_other {id : SlotId} {x : BeaconItem} (rest : List BeaconItem) (hacc : s.accepting = some id)
    (ho : (s.slot id).state = .opened ∨ (s.slot id).state = .closing) (hs : s.mgt.run = .run ∨ s.mgt.run = .quiescing)
    (hother : ¬ (x.slot = id ∧ x.seq = (s.slot id).seq)) :
    s.takeBeacon x rest = (s.hold (beaconFrame s.lif.station x)).withPvw
      { s.pvw with
        items := putItem (s.beaconItem id (if (s.slot id).state = .opened then .opened else .closing)) rest
        timer := s.pvw.timer.filter (· ≤ s.now) } := by
  rw [State.takeBeacon_eq, State.beaconTaken_other (s := s.beaconHeld x rest) hacc hother]
  exact State.triggerAccepting_beaconing (s := s.beaconHeld x rest) hacc ho hs

/-! ### The settling of a step whose event leaves the holder EMPTY -/

/-- In QUIESCING with a slot in use, QUIET is not due (R202). -/
theorem State.quietNow_unfinished (h : s.mgt.run = .quiescing → ∃ id, (s.slot id).state ≠ .free) : s.quietNow = false := by
  by_cases hq : s.mgt.run = .quiescing
  · obtain ⟨id, hid⟩ := h hq
    exact State.quietNow_of_slot hid
  · simp [State.quietNow, hq]

theorem State.quietNow_releases (h : s.aru.releases ≠ []) : s.quietNow = false := by
  simp [State.quietNow, h]

/-- Where the arbiter fills the holder and no round admits, its choice is all that follows, and the wake-ups are spent. -/
theorem State.settle_taken {t : State} (ha : s.arbitrate = t) (hfull : t.holderFull) (hn : t.noneToAdmit) (hq : t.quietNow = false) :
    s.settle = t.withWake false := by
  have hsame : s.settle = t.settle := by
    unfold State.settle
    rw [ha, State.arbitrate_full hfull]
  rw [hsame]
  exact State.settle_noneToAdmit hfull hn hq

/-- Where the arbiter finds nothing and no wake-up has come, nothing follows. -/
theorem State.settle_idle (ha : s.arbitrate = s) (hw : s.wake = false) (hq : s.quietNow = false) : s.settle = s := by
  have hround : s.roundIfWoken = s := by simp [State.roundIfWoken, hw]
  unfold State.settle
  rw [ha, hround, ha, hround, State.testQuiet, hq]
  rfl

end

/-! What the settling brings a state whose holder has just become EMPTY, where no round admits and QUIET is not due. -/

section
variable {s : State} (hfree : s.lif.holder = none) (hrun : s.mgt.run ≠ .selftest) (hadmit : s.noneToAdmit) (hwake : s.wake = false)
include hfree hrun hadmit hwake

theorem State.settle_release {r : Release} {rest : List Release} (hr : s.aru.releases = r :: rest)
    (hq : (s.takeRelease r rest).quietNow = false) : s.settle = s.takeRelease r rest := by
  rw [State.settle_taken ((State.arbitrate_empty hfree hrun).trans (State.arbiterChoice_release hr)) rfl hadmit hq]
  exact State.withWake_self hwake

theorem State.settle_fetch {i : Fin 4} {rest : List (Fin 4)} {x : Fetch} (hr : s.aru.releases = []) (hf : s.fen.items = i :: rest)
    (hx : s.fen.slots[i] = some x) (hq : s.quietNow = false) :
    s.settle =
      (((s.withFen { s.fen with items := rest }).setFetch i
        (some { x with phase := .receiving (s.now + s.mgt.config.fetchTimeout) })).bump .fetchesSent).hold
        (fetchFrame s.lif.station x.pair) := by
  rw [State.settle_taken ((State.arbitrate_empty hfree hrun).trans ((State.arbiterChoice_fetch hr hf).trans (State.takeFetchItem_of_busy hx)))
    rfl hadmit hq]
  exact State.withWake_self hwake

omit hwake in
theorem State.settle_claim {c : Claim} (hr : s.aru.releases = []) (hf : s.fen.items = [])
    (hs : s.mgt.run = .run ∨ s.mgt.run = .quiescing) (hc : s.sel.claims.find? Claim.isWaiting = some c) (hq : s.quietNow = false) :
    s.settle = (s.takeClaim c).withWake false :=
  State.settle_taken ((State.arbitrate_empty hfree hrun).trans (State.arbiterChoice_claim hr hf hs hc)) rfl hadmit hq

/-- A beacon leaves the peer view as what follows its taking leaves it. -/
theorem State.settle_beacon {x : BeaconItem} {rest : List BeaconItem} {p : Pvw} (hr : s.aru.releases = []) (hf : s.fen.items = [])
    (hs : s.mgt.run = .run ∨ s.mgt.run = .quiescing) (hc : s.sel.claims.find? Claim.isWaiting = none) (hi : s.pvw.items = x :: rest)
    (hq : s.quietNow = false)
    (hp : s.takeBeacon x rest = (s.hold (beaconFrame s.lif.station x)).withPvw p) :
    s.settle = (s.hold (beaconFrame s.lif.station x)).withPvw p := by
  rw [State.settle_taken ((State.arbitrate_empty hfree hrun).trans ((State.arbiterChoice_beacon hr hf hs hc hi).trans hp)) rfl hadmit hq]
  exact State.withWake_self hwake

omit hadmit in
theorem State.settle_nothing (hr : s.aru.releases = []) (hf : s.fen.items = [])
    (h : ¬ (s.mgt.run = .run ∨ s.mgt.run = .quiescing) ∨ (s.sel.claims.find? Claim.isWaiting = none ∧ s.pvw.items = []))
    (hq : s.quietNow = false) : s.settle = s :=
  State.settle_idle ((State.arbitrate_empty hfree hrun).trans (State.arbiterChoice_none hr hf h)) hwake hq

end

/-! ### The medium's answers -/

/-- The state that an answer of the medium leaves when the held frame goes: the holder EMPTY, the frame sent or dropped, and the counter
raised (R34). -/
def State.frameGone (s : State) (h : HeldFrame) (took : Bool) : State :=
  if took then State.bump { s.begin with lif := { s.lif with holder := none }, emitted := [.frame h.bytes] } .framesSent
  else State.bump { s.begin with lif := { s.lif with holder := none } } .transmitDrops

/-- The state with the holder EMPTY, at the start of a command. -/
def State.emptied (s : State) (counters : Vector Counter 84) (emitted : List Emission) : State :=
  { s.begin with lif := { s.lif with holder := none }, counters := counters, emitted := emitted }

theorem State.frameGone_eq (s : State) (h : HeldFrame) (took : Bool) :
    ∃ counters emitted, s.frameGone h took = s.emptied counters emitted := by
  cases took <;> exact ⟨_, _, rfl⟩

/-- The frame taken, or refused for the 16th time, is gone, and the step settles. -/
theorem exec_medium {s : State} {h : HeldFrame} {took : Bool} (hh : s.lif.holder = some h) (hr : took = false → h.refusals = 15) :
    exec (if took then .mediumTakesFrame else .mediumRefusesFrame) s = .next (s.frameGone h took).settle := by
  cases took with
  | true =>
    show Host.Outcome.next s.begin.mediumTakes = _
    simp only [State.mediumTakes, State.begin_lif, hh]
    rfl
  | false =>
    show Host.Outcome.next s.begin.mediumRefuses = _
    simp only [State.mediumRefuses, State.begin_lif, hh, hr rfl]
    rfl

/-- Settles O29: the frame is gone, and the arbiter takes up what its preference has first. -/
theorem holderEmptied : Obligations.HolderEmptied := by
  intro took h s hh hrefused hadmit hrun command left holding st sending unfinished
  have hexec : exec command s = .next left.settle := exec_medium hh hrefused
  obtain ⟨counters, emitted, hleft⟩ : ∃ counters emitted, left = s.emptied counters emitted := s.frameGone_eq h took
  clear_value left
  subst hleft
  have hquiet : unfinished → s.quietNow = false := State.quietNow_unfinished
  rw [hexec]
  refine ⟨fun r rest hr hq => ?_, fun i rest x hr hf hx hq => ?_, fun c id hr hf hs hq hc hid => ?_,
    fun x rest hr hf hs hq hc hi => ⟨fun id hacc hslot hseq hp => ?_, fun hforming => ?_, fun id hacc ho hother => ?_⟩, fun hr hf hq => ?_⟩
  · have hquiet' : unfinished ∨ rest ≠ [] → (s.withAru { s.aru with releases := rest }).quietNow = false := fun h =>
      h.elim (State.quietNow_unfinished (s := s.withAru { s.aru with releases := rest }))
        (State.quietNow_releases (s := s.withAru { s.aru with releases := rest }))
    rw [State.settle_release (s := s.emptied counters emitted) rfl hrun hadmit rfl hr (hquiet' hq)]
    rfl
  · rw [State.settle_fetch (s := s.emptied counters emitted) rfl hrun hadmit rfl hr hf hx (hquiet hq)]
    rfl
  · rw [State.settle_claim (s := s.emptied counters emitted) rfl hrun hadmit hr hf hs hc (hquiet hq)]
    have hseq : s.claimSeq c = (s.slot id).seq := by simp only [State.claimSeq, hid]
    rw [← hseq]
    rfl
  · rw [State.settle_beacon (s := s.emptied counters emitted) rfl hrun hadmit rfl hr hf hs hc hi (hquiet hq)
      (State.takeBeacon_own rest hacc hslot hseq hp)]
    rfl
  · rw [State.settle_beacon (s := s.emptied counters emitted) rfl hrun hadmit rfl hr hf hs hc hi (hquiet hq)
      (State.takeBeacon_silent rest hforming)]
    rfl
  · rw [State.settle_beacon (s := s.emptied counters emitted) rfl hrun hadmit rfl hr hf hs hc hi (hquiet hq)
      (State.takeBeacon_other rest hacc ho hs hother)]
    rfl
  · rw [State.settle_nothing (s := s.emptied counters emitted) rfl hrun rfl hr hf (hq.imp_right And.right) ?_]
    rcases hq with hs | ⟨hq, -⟩
    · exact State.quietNow_unfinished fun hk => absurd (Or.inr hk) hs
    · exact hquiet hq

/-- Settles O30: an EMPTY holder is left alone, a refusal below the 16th is counted in the holder, and behind the 16th the arbiter finds
nothing it may send. -/
theorem mediumRefuses : Obligations.MediumRefuses := by
  intro s
  refine ⟨fun hnone => ⟨?_, ?_⟩, fun h hh hlt => ?_, fun h hh hr hrel hf hrun => ?_⟩
  · show Host.Outcome.next s.begin.mediumRefuses = _
    simp only [State.mediumRefuses, State.begin_lif, hnone]
  · show Host.Outcome.next s.begin.mediumTakes = _
    simp only [State.mediumTakes, State.begin_lif, hnone]
  · show Host.Outcome.next s.begin.mediumRefuses = _
    simp only [State.mediumRefuses, State.begin_lif, hh]
    rw [if_pos (by omega)]
    rfl
  · have hexec := exec_medium (took := false) hh fun _ => hr
    have hsending : ¬ (s.mgt.run = .run ∨ s.mgt.run = .quiescing) := by
      rcases hrun with e | e | e <;> simp [e]
    have hsettle : (s.frameGone h false).settle = s.frameGone h false :=
      State.settle_nothing rfl (show s.mgt.run ≠ .selftest by rcases hrun with e | e | e <;> simp [e]) rfl hrel hf (.inl hsending)
        (State.quietNow_unfinished fun hk => absurd (Or.inr hk) hsending)
    rw [hsettle] at hexec
    exact hexec

end Sys2Proof.Machine

/-! ## No pair twice (R41, R43, R73, R79) -/

namespace Sys2Proof.Machine

/-! ### What every step keeps -/

theorem Turns.keeps {P : State → Prop} {e : Bool} (hturn : ∀ {s t}, Turn e s t → P s → P t) {s t : State} (m : Turns e s t) (h : P s) :
    P t := by
  induction m with
  | refl => exact h
  | tail _ m ih => exact hturn m ih

/-- A property that every turn and every hard reset keep, and that does not depend on the queue of commands, every step keeps. -/
theorem step_keeps {P : State → Prop} (hturn : ∀ {e s t}, Turn e s t → P s → P t)
    (hreset : ∀ {s} straps, P s → P (s.hardReset straps)) (hqueue : ∀ {s} cs, P s → P (s.withPending cs))
    {s t : State} (h : P s) (ht : step s = .next t) : P t := by
  unfold step at ht
  split at ht
  · next c rest _ =>
    have hrest : P (s.withPending rest) := hqueue rest h
    by_cases hc : ∃ straps, c = .hardReset straps
    · obtain ⟨straps, rfl⟩ := hc
      cases ht
      exact hreset straps hrest
    · obtain ⟨u, hu, hturns⟩ := exec_turns c _ fun straps k => hc ⟨straps, k⟩
      cases hu.symm.trans ht
      exact hturns.keeps hturn hrest
  · cases ht
    rcases s.idle_cases with hhalt | hissue | htick
    · exact hhalt ▸ hqueue _ h
    · exact (hissue.turns false).keeps hturn h
    · rw [htick, State.tick]
      split
      · exact hqueue _ (hturn (e := false) (.mgt s _ rfl id) h)
      · exact h

/-! ### The pairs listed and pending -/

theorem dropCandidate_perm {cs : List Candidate} {c : Candidate} (hn : (cs.map fun d => d.file.pair).Nodup) (hc : c ∈ cs) :
    (cs.map fun d => d.file.pair).Perm (c.file.pair :: (dropCandidate c.file.pair cs).map fun d => d.file.pair) := by
  have herase : (dropCandidate c.file.pair cs).map (fun d => d.file.pair) = (cs.map fun d => d.file.pair).erase c.file.pair := by
    rw [hn.erase_eq_filter, List.filter_map]
    unfold dropCandidate
    congr 1
    refine List.filter_congr fun d _ => ?_
    simp [bne, beq_eq_decide]
  rw [herase]
  exact List.perm_cons_erase (List.mem_map.2 ⟨c, hc, rfl⟩)

/-- Entries that leave either table make no pair double. -/
theorem State.pairsDistinct_of_sublist {s t : State} (h : s.pairsDistinct)
    (hcands : (t.oft.candidates.map fun c => c.file.pair).Sublist (s.oft.candidates.map fun c => c.file.pair))
    (hclaims : (t.sel.claims.map fun c => c.file.pair).Sublist (s.sel.claims.map fun c => c.file.pair)) : t.pairsDistinct :=
  h.sublist (hcands.append hclaims)

theorem State.pairsDistinct_congr {s t : State} (h : s.pairsDistinct) (ho : t.oft = s.oft) (hs : t.sel = s.sel) : t.pairsDistinct := by
  unfold State.pairsDistinct
  rw [ho, hs]
  exact h

/-- A pair that is neither listed nor pending may be listed (R43, R44). -/
theorem State.pairsDistinct_listed {s : State} {c : Candidate} (h : s.pairsDistinct) (hn : ∀ d ∈ s.oft.candidates, d.file.pair ≠ c.file.pair)
    (hc : ∀ d ∈ s.sel.claims, d.file.pair ≠ c.file.pair) : (s.setCandidates (s.oft.candidates ++ [c])).pairsDistinct := by
  unfold State.pairsDistinct
  rw [State.setCandidates_candidates, List.map_append, List.append_assoc]
  refine (List.perm_middle.nodup_iff).2 (List.nodup_cons.2 ⟨fun hmem => ?_, h⟩)
  rcases List.mem_append.1 hmem with k | k
  · obtain ⟨d, hd, e⟩ := List.mem_map.1 k
    exact hn d hd e
  · obtain ⟨d, hd, e⟩ := List.mem_map.1 k
    exact hc d hd e

/-- An admission moves a pair from the list to the pending table (R79). -/
theorem State.pairsDistinct_admitted {s : State} {c : Candidate} {k : Claim} (h : s.pairsDistinct) (hc : c ∈ s.oft.candidates)
    (hk : k.file = c.file) : ((s.setCandidates (dropCandidate c.file.pair s.oft.candidates)).withSel
      { s.sel with claims := s.sel.claims ++ [k] }).pairsDistinct := by
  have hperm := dropCandidate_perm (List.nodup_append.1 h).1 hc
  show ((dropCandidate c.file.pair s.oft.candidates).map (fun d => d.file.pair) ++
    (s.sel.claims ++ [k]).map fun d => d.file.pair).Nodup
  rw [List.map_append, ← List.append_assoc, List.map_singleton, hk]
  exact ((List.perm_append_singleton _ _).trans (hperm.symm.append_right _)).nodup_iff.2 h

theorem Move.pairsDistinct {s t : State} (m : Move s t) (h : s.pairsDistinct) : t.pairsDistinct := by
  cases m with
  | oft x hx => exact State.pairsDistinct_of_sublist h hx (.refl _)
  | sel x hx => exact State.pairsDistinct_of_sublist h (.refl _) hx
  | listed c _ hn hc => exact State.pairsDistinct_listed h hn hc
  | admitted c k hc hk _ => exact State.pairsDistinct_admitted h hc hk
  | buffer | slot | form | done => exact State.pairsDistinct_congr h (by simp) (by simp)
  | _ => exact h

theorem Turn.pairsDistinct {e : Bool} {s t : State} (m : Turn e s t) (h : s.pairsDistinct) : t.pairsDistinct := by
  cases m with
  | move m => exact m.pairsDistinct h
  | mgt | tested | newEpoch => exact h

/-- Settles O59: entries leave the two tables, a pair that is in neither is listed, and an admission moves one from the first to the second. -/
theorem pairsStayDistinct : Obligations.PairsStayDistinct :=
  fun _ _ h ht => step_keeps Turn.pairsDistinct (fun _ _ => List.nodup_nil) (fun _ h => h) h ht

end Sys2Proof.Machine

/-! ## Offers and the candidate list (R42 to R55) -/

namespace Sys2Proof.Machine

/-! ### The affinity key (R48) -/

/-- Settles O9: the bits below the rotation come from the top of the tag, the others from r places below. -/
theorem affinityKeyBits : Obligations.AffinityKeyBits := by
  intro cfg tag i hr hi
  rw [affinityKey, BitVec.getLsbD_and, BitVec.getLsbD_rotateLeft_of_le (by omega)]
  congr 1
  by_cases h : i < cfg.rotation
  · have hplace : (i + 64 - cfg.rotation) % 64 = 64 - cfg.rotation + i := by omega
    simp [h, hplace]
  · have hplace : (i + 64 - cfg.rotation) % 64 = i - cfg.rotation := by omega
    simp [h, hi, hplace]

/-! ### The candidate list -/

theorem State.candidate?_isSome_iff (s : State) (p : FilePair) :
    (s.candidate? p).isSome = true ↔ ∃ c ∈ s.oft.candidates, c.file.pair = p := by
  simp [State.candidate?, List.find?_isSome]

/-- At rest the notice the offer table gives the selector is spent in the step that gives it (R44, R45). -/
theorem State.settle_notified {s t : State} (h : s.atRest) (hp : t.pkb = s.pkb) (hl : t.lif = s.lif) (hm : t.mgt = s.mgt)
    (hs : t.sel = s.sel) (ha : t.aru = s.aru) : t.notifyIfFrozen.settle = t.withWake false := by
  unfold State.notifyIfFrozen
  split
  · exact State.settled (t := t.wakeUp) h hp hl hm hs ha
  · exact State.settled h hp hl hm hs ha

/-! ### OFFER (R43 to R47) -/

section
variable {s : State} {x : FileInfo}

theorem State.offerArrives_held (h : s.heldHere x.pair = true) : s.offerArrives x = s.bump .heldFileOffers := if_pos h

variable (hheld : s.heldHere x.pair = false)
include hheld

theorem State.offerArrives_oversize (hsize : 16777216 < x.size) :
    s.offerArrives x = (s.setCandidates (dropCandidate x.pair s.oft.candidates)).bump .oversizeOffers := by
  rw [State.offerArrives, if_neg (by simp [hheld]), if_pos hsize]

variable (hsize : x.size ≤ 16777216)
include hsize

theorem State.offerArrives_listed (hl : ∃ c ∈ s.oft.candidates, c.file.pair = x.pair) : s.offerArrives x = s.replaceCandidate x := by
  rw [State.offerArrives, if_neg (by simp [hheld]), if_neg (by omega), if_pos ((s.candidate?_isSome_iff _).2 hl)]

variable (hl : ¬ ∃ c ∈ s.oft.candidates, c.file.pair = x.pair)
include hl

theorem State.offerArrives_room (hroom : s.oft.candidates.length < 1024) : s.offerArrives x = s.addCandidate x := by
  rw [State.offerArrives, if_neg (by simp [hheld]), if_neg (by omega), if_neg (mt (s.candidate?_isSome_iff _).1 hl), if_pos hroom]

theorem State.offerArrives_full (hfull : s.oft.candidates.length = 1024) :
    s.offerArrives x = ((s.setCandidates (s.oft.candidates.drop 1)).bump .candidateEvictions).addCandidate x := by
  rw [State.offerArrives, if_neg (by simp [hheld]), if_neg (by omega), if_neg (mt (s.candidate?_isSome_iff _).1 hl), if_neg (by omega),
    makeRoom, hfull]

end

theorem exec_offer {s : State} {f : Frame} {sender : Station} {x : FileInfo} (hacc : s.accepts 0x21#8 f sender)
    (hread : readOffer f sender = some x) :
    exec (.offer f) s = .next ((s.begin.bump .framesAccepted).offerArrives x).settle :=
  congrArg Host.Outcome.next (State.receive_accepted _ _ (State.accepts_begin hacc) hread)

/-- Settles O8: the cases of R43 in their order; the wake-up a change of the list brings is spent in the step. -/
theorem offerArrives : Obligations.OfferArrives := by
  intro f sender x s hacc hread hrest a list key listed
  rw [exec_offer hacc hread]
  refine ⟨fun hheld => ?_, fun hheld hsize => ?_, fun hheld hsize hl => ?_, fun hheld hsize hl hroom => ?_, fun hheld hsize hl hfull => ?_⟩
  · rw [State.offerArrives_held (s := a) hheld, State.settled hrest] <;> rfl
  · rw [State.offerArrives_oversize (s := a) hheld hsize, State.settled hrest] <;> rfl
  · rw [State.offerArrives_listed (s := a) hheld hsize hl, State.replaceCandidate, State.settle_notified hrest] <;> rfl
  · rw [State.offerArrives_room (s := a) hheld hsize hl hroom, State.addCandidate, State.settle_notified hrest] <;> rfl
  · rw [State.offerArrives_full (s := a) hheld hsize hl hfull, State.addCandidate, State.settle_notified hrest] <;> rfl

/-! ### The contest mark (R51, R52) -/

/-- A contest expiry is judged by the end time of the pair's mark (R52, log entry 23). -/
theorem State.contestTimer_of_mark {s : State} {p : FilePair} {c : Candidate} {now e : Nat} (hc : s.candidate? p = some c)
    (he : c.contest = some (.endsAt e)) (hn : s.mgt.clock = some now) :
    s.contestTimer p = if e ≤ now then (s.contestExpires p).settle else s := by
  unfold State.contestTimer State.due
  simp [hc, he, hn, Candidate.contestEnd]

/-- Settles O10: a CLAIM reaches the offer table alone, and at rest the wake-up of an expiry is spent in its step. -/
theorem contestMarks : Obligations.ContestMarks := by
  refine ⟨?_, fun st ticket c s now e hc he hn hrest => ?_⟩
  · intro f sender p s hacc hread mark
    exact congrArg Host.Outcome.next (State.receive_accepted _ _ (State.accepts_begin hacc) hread)
  · have hexec : exec (.contestExpiry st ticket) s =
        .next (if e ≤ now then (s.begin.contestExpires ⟨st, ticket⟩).settle else s.begin) :=
      congrArg Host.Outcome.next (State.contestTimer_of_mark (s := s.begin) hc he hn)
    rw [hexec]
    refine ⟨fun hdue => ?_, fun hearly => ?_⟩
    · rw [if_pos hdue, State.settled hrest] <;> rfl
    · rw [if_neg (by omega)]

/-! ### The end of a candidate (R53 to R55) -/

section
variable {s : State} {p : FilePair}

theorem State.removeCandidate_listed (h : ∃ c ∈ s.oft.candidates, c.file.pair = p) (k : Ctr) :
    s.removeCandidate p k = (s.setCandidates (dropCandidate p s.oft.candidates)).bump k := if_pos ((s.candidate?_isSome_iff p).2 h)

theorem State.removeCandidate_unlisted (h : ¬ ∃ c ∈ s.oft.candidates, c.file.pair = p) (k : Ctr) : s.removeCandidate p k = s :=
  if_neg (mt (s.candidate?_isSome_iff p).1 h)

theorem State.endClaimOf_none (h : s.claim? p = none) (k : Ctr) : s.endClaimOf p k = s := by
  simp only [State.endClaimOf, h]

theorem State.withdrawnMember_none (h : s.liveMember p = none) : s.withdrawnMember p = s := by
  simp only [State.withdrawnMember, h]

theorem State.claim?_removeCandidate (k : Ctr) : (s.removeCandidate p k).claim? p = s.claim? p := by
  unfold State.removeCandidate
  split <;> rfl

theorem State.liveMember_removeCandidate (k : Ctr) : (s.removeCandidate p k).liveMember p = s.liveMember p := by
  unfold State.removeCandidate
  split <;> rfl

/-- For a pair not pending here, a GRANT to another station concerns the offer table alone (R54, R87). -/
theorem State.grantedElsewhere_unclaimed (hc : s.claim? p = none) :
    s.grantedElsewhere p = s.removeCandidate p .candidatesTakenElsewhere :=
  State.endClaimOf_none ((State.claim?_removeCandidate _).trans hc) _

/-- For a pair neither pending nor a live member here, a WITHDRAW concerns the offer table alone (R55, R89, R112). -/
theorem State.withdrawArrives_unheld (hc : s.claim? p = none) (hm : s.liveMember p = none) :
    s.withdrawArrives p = s.removeCandidate p .candidatesWithdrawn := by
  rw [State.withdrawArrives, State.endClaimOf_none ((State.claim?_removeCandidate _).trans hc),
    State.withdrawnMember_none ((State.liveMember_removeCandidate _).trans hm)]

end

/-- The removal of a candidate as all of a step at rest: a listed pair leaves and is counted, an unlisted one changes nothing. -/
theorem State.settle_removeCandidate {s : State} {p : FilePair} (hrest : s.atRest) (k : Ctr) :
    let a := s.begin.bump .framesAccepted
    ((∃ c ∈ s.oft.candidates, c.file.pair = p) →
      (a.removeCandidate p k).settle = State.bump { a with oft := ⟨s.oft.candidates.filter fun c => c.file.pair ≠ p⟩ } k) ∧
    ((¬ ∃ c ∈ s.oft.candidates, c.file.pair = p) → (a.removeCandidate p k).settle = a) := by
  intro a
  refine ⟨fun h => ?_, fun h => ?_⟩
  · rw [State.removeCandidate_listed (s := a) h, State.settled hrest] <;> rfl
  · rw [State.removeCandidate_unlisted (s := a) h, State.settled hrest] <;> rfl

/-- Settles O11: each of the messages comes down to the removal of the candidate, or to nothing. -/
theorem candidateRemoved : Obligations.CandidateRemoved := by
  intro f sender other ticket s hrest hclaim hmember hother a listed dropped
  have hremove : ∀ k, (listed → Host.Outcome.next (a.removeCandidate ⟨sender, ticket⟩ k).settle =
        (.next (dropped.bump k) : Host.Outcome State Fault Refusal)) ∧
      (¬ listed → Host.Outcome.next (a.removeCandidate ⟨sender, ticket⟩ k).settle = (.next a : Host.Outcome State Fault Refusal)) :=
    fun k => (State.settle_removeCandidate hrest k).imp (fun h hl => congrArg _ (h hl)) (fun h hl => congrArg _ (h hl))
  refine ⟨fun hacc hread => ?_, fun hacc hread => ?_, fun reason hacc hread => ?_⟩
  · have hexec : exec (.withdraw f) s = .next (a.withdrawArrives ⟨sender, ticket⟩).settle :=
      congrArg Host.Outcome.next (State.receive_accepted _ _ (State.accepts_begin hacc) hread)
    rw [hexec, State.withdrawArrives_unheld (s := a) hclaim hmember]
    exact hremove _
  · have hexec : exec (.grant f) s = .next (a.grantedElsewhere ⟨sender, ticket⟩).settle :=
      congrArg Host.Outcome.next ((State.receive_accepted _ _ (State.accepts_begin hacc) hread).trans
        (congrArg State.settle (if_neg hother)))
    rw [hexec, State.grantedElsewhere_unclaimed (s := a) hclaim]
    exact hremove _
  · have hexec : exec (.refuse f) s = .next (a.refusedElsewhere ⟨sender, ticket⟩ reason).settle :=
      congrArg Host.Outcome.next ((State.receive_accepted _ _ (State.accepts_begin hacc) hread).trans
        (congrArg State.settle (if_neg hother)))
    rw [hexec]
    cases reason with
    | taken => exact ⟨fun hl _ => (hremove _).1 hl, fun _ k => (nomatch k), fun h => (hremove _).2 (h.resolve_right nofun)⟩
    | withdrawn => exact ⟨fun _ k => (nomatch k), fun hl _ => (hremove _).1 hl, fun h => (hremove _).2 (h.resolve_right nofun)⟩
    | unknown =>
      refine ⟨fun _ k => (nomatch k), fun _ k => (nomatch k), fun _ => congrArg _ ?_⟩
      rw [State.refusedElsewhere, State.settled hrest] <;> rfl

end Sys2Proof.Machine

/-! ## Entry to RUN (R49, R201, R203) -/

namespace Sys2Proof.Machine

/-- No round admits where no candidate is listed, or where no pack takes one and none can form (R75). -/
theorem State.selectionRound_nothing {s : State} (h : s.oft.candidates = [] ∨ (s.accepting = none ∧ s.canForm = false)) :
    s.selectionRound = s :=
  h.elim State.selectionRound_empty fun k => State.selectionRound_held (State.roundsHeld_runs (.inr (.inr k)))

/-- The wake mark plays no part in an answer. -/
theorem State.answer_withWake (s : State) (b : Bool) (st : Status) (data : List Byte) :
    (s.withWake b).answer st data = (s.answer st data).withWake b := by
  have hunread : (s.withWake b).responseUnread = s.responseUnread := rfl
  unfold State.answer
  rw [hunread]
  cases s.responseUnread <;> rfl

theorem State.answer_frame (s : State) (st : Status) (data : List Byte) :
    (s.answer st data).lif = s.lif ∧ (s.answer st data).oft = s.oft ∧ (s.answer st data).pkb = s.pkb ∧
    (s.answer st data).mgt = { s.mgt with response := some ⟨st, data, false⟩ } := by
  obtain ⟨counters, h, -⟩ := s.answer_eq st data
  rw [h]
  exact ⟨rfl, rfl, rfl, rfl⟩

/-- An answer in RUN, given with a FULL holder where no round can take a candidate, is all of its step. -/
theorem State.settle_answer {s : State} (hfull : s.holderFull) (hrun : s.mgt.run = .run)
    (hround : s.oft.candidates = [] ∨ (s.accepting = none ∧ s.canForm = false)) (st : Status) (data : List Byte) :
    (s.answer st data).settle = (s.withWake false).answer st data := by
  obtain ⟨hlif, hoft, hpkb, hmgt⟩ := s.answer_frame st data
  rw [State.answer_withWake]
  refine State.settle_spends (State.holderFull_congr hfull hlif) (State.selectionRound_nothing ?_)
    (State.quietNow_unfinished fun k => ?_)
  · have hacc : (s.answer st data).accepting = s.accepting := by unfold State.accepting; rw [hpkb]
    have hform : (s.answer st data).canForm = s.canForm := by unfold State.canForm State.slotsInUse; rw [hpkb, hacc, hmgt]
    show (s.answer st data).oft.candidates = [] ∨ ((s.answer st data).accepting = none ∧ (s.answer st data).canForm = false)
    rw [hoft, hacc, hform]
    exact hround
  · rw [hmgt] at k
    exact absurd (hrun.symm.trans k) (by decide)

/-- A command allowed in the run state it meets acts, with no SELFTEST and no RESTART in progress (R196). -/
theorem State.command_acts {s : State} {allowed : RunState → Bool} (hself : s.mgt.run ≠ .selftest) (hr : s.mgt.restarting = false)
    (ha : allowed s.mgt.run = true) (act : State → State) : s.command false false allowed act = act s := by
  simp [State.command, State.isBusy, hself, hr, ha]

/-- What START does to an entry, mark by mark (R49). -/
theorem Candidate.atStart_eq (cfg : ConfigRecord) (c : Candidate) : c.atStart cfg = { c with
    key := some (affinityKey cfg c.file.tag), firstHeard := some (c.firstHeard.getD 0)
    contest := if c.contest = some .pendingEnd then some (.endsAt (2 * cfg.claimTimeout)) else c.contest } := by
  obtain ⟨file, key, firstHeard, contest⟩ := c
  cases contest with
  | none => rfl
  | some m => cases m <;> rfl

theorem exec_start {s : State} (params : List Byte) (hrun : s.mgt.run = .config) (hr : s.mgt.restarting = false)
    (hservice : 24 ≤ s.inService) : exec (.start params) s = .next (s.begin.started.answer .done []).settle := by
  refine congrArg Host.Outcome.next ?_
  rw [State.takeStart, State.command_acts (s := s.begin) (by simp [hrun]) hr (by simp [hrun])]
  exact if_neg (show ¬ s.inService < 24 by omega)

/-- What RESUME does before its answer (R203). -/
def State.resumed (s : State) : State :=
  ((s.withMgt { s.mgt with run := .run }).withSel { s.sel with sweepAt := some ((s.now / 1000 + 1) * 1000) }).wakeUp

theorem exec_resume {s : State} (form : ModeForm) (params : List Byte) (hrun : s.mgt.run = .quiescing ∨ s.mgt.run = .quiet)
    (hr : s.mgt.restarting = false) : exec (.resume form params) s = .next (s.begin.resumed.answer .done []).settle := by
  have hself : s.mgt.run ≠ .selftest := by rcases hrun with h | h <;> simp [h]
  have htake : s.begin.takeResume = (s.begin.resumed.answer .done []).settle :=
    State.command_acts (s := s.begin) (allowed := fun r => r = .quiescing || r = .quiet) hself hr (by rcases hrun with h | h <;> simp [h]) _
  rw [← htake]
  cases form with
  | short => rfl
  | runMode =>
    refine congrArg Host.Outcome.next ?_
    have hbusy : s.begin.isBusy = false := by simp [State.isBusy, hself, hr]
    show s.begin.takeRunMode (3 :: params) = s.begin.takeResume
    simp [State.takeRunMode, hbusy, fieldAt_cons_zero]

/-- Settles O51: the answer is all that follows what START and RESUME do, the wake-up they bring finding no candidate to take. -/
theorem runEntered : Obligations.RunEntered := by
  refine ⟨?_, ?_⟩
  · intro params s hrun hr hservice hfull hround cfg
    have hmapped : s.begin.started.oft.candidates = [] ∨ (s.accepting = none ∧ s.canForm = false) :=
      hround.imp_left fun h => by simp [State.started, h]
    rw [exec_start params hrun hr hservice, State.settle_answer (s := s.begin.started) hfull rfl hmapped]
    simp only [← Candidate.atStart_eq]
    rfl
  · intro form params now s hrun hr hclock hfull hround
    have hnow : s.now = now := by simp [State.now, hclock]
    rw [exec_resume form params hrun hr, State.settle_answer (s := s.begin.resumed) hfull rfl hround, ← hnow]
    rfl

end Sys2Proof.Machine

/-! ## Buffers that become FREE (R145, R152, R158) -/

namespace Sys2Proof.Machine

/-- From one state to a later one a buffer stays as it is, or, unless it is RETIRED, becomes FREE. -/
def State.BuffersFreed (s t : State) : Prop :=
  ∀ i, t.buffer i = s.buffer i ∨ ((s.buffer i).state ≠ .retired ∧ t.buffer i = ⟨.free, none⟩)

theorem State.BuffersFreed.refl (s : State) : s.BuffersFreed s := fun _ => .inl rfl

theorem State.BuffersFreed.trans {s t u : State} (h : s.BuffersFreed t) (k : t.BuffersFreed u) : s.BuffersFreed u := fun i => by
  rcases h i with hi | ⟨hne, hi⟩ <;> rcases k i with ki | ⟨kne, ki⟩
  · exact .inl (ki.trans hi)
  · exact .inr ⟨hi ▸ kne, ki⟩
  · exact .inr ⟨hne, ki.trans hi⟩
  · exact .inr ⟨hne, ki⟩

theorem State.BuffersFreed.of_buffers {s t : State} (h : t.spl.buffers = s.spl.buffers) : s.BuffersFreed t :=
  fun i => .inl (by unfold State.buffer; rw [h])

/-- Some buffers have become FREE, and nothing else has changed but the wake mark. -/
def State.FreesOnly (s t : State) : Prop :=
  (∃ (bufs : Vector Buffer 64) (w : Bool), t = (s.withSpl { s.spl with buffers := bufs }).withWake w) ∧ s.BuffersFreed t

theorem State.FreesOnly.refl (s : State) : s.FreesOnly s := ⟨⟨s.spl.buffers, s.wake, rfl⟩, .refl s⟩

theorem State.FreesOnly.trans {s t u : State} (h : s.FreesOnly t) (k : t.FreesOnly u) : s.FreesOnly u := by
  obtain ⟨⟨bufs, w, ht⟩, hfreed⟩ := h
  obtain ⟨⟨bufs', w', hu⟩, kfreed⟩ := k
  refine ⟨⟨bufs', w', ?_⟩, hfreed.trans kfreed⟩
  rw [hu, ht]
  rfl

theorem State.FreesOnly.ite {p : Prop} [Decidable p] {s t u : State} (ht : p → s.FreesOnly t) (hu : ¬ p → s.FreesOnly u) :
    s.FreesOnly (if p then t else u) := by
  split
  · exact ht ‹_›
  · exact hu ‹_›

theorem State.FreesOnly.foldl {α : Type} {f : State → α → State} (h : ∀ (s : State) (a : α), s.FreesOnly (f s a)) (l : List α) (s : State) :
    s.FreesOnly (l.foldl f s) := by
  induction l generalizing s with
  | nil => exact .refl s
  | cons a l ih => exact (h s a).trans (ih _)

theorem State.freeBuffer_freesOnly (s : State) (i : Fin 64) : s.FreesOnly (s.freeBuffer i) := by
  by_cases h : (s.buffer i).state = .retired
  · have hsame : s.freeBuffer i = s.wakeUp := by rw [State.freeBuffer, State.setBuffer, if_pos h]
    rw [hsame]
    exact ⟨⟨s.spl.buffers, true, rfl⟩, .of_buffers rfl⟩
  · obtain ⟨bufs, heq⟩ := State.freeBuffer_eq h
    refine ⟨⟨bufs, true, heq⟩, fun j => ?_⟩
    rw [State.freeBuffer_buffer h]
    by_cases e : j = i
    · exact .inr ⟨e ▸ h, if_pos e⟩
    · exact .inl (if_neg e)

theorem State.freeUntouched_freesOnly (s : State) (id : SlotId) (ms : List Member) : s.FreesOnly (s.freeUntouched id ms) :=
  .foldl (fun s i => .ite (fun _ => s.freeBuffer_freesOnly i) fun _ => .refl s) _ s

/-- With no member offered no buffer of the pack is HELD: what is left of them becomes FREE (R183). -/
theorem State.holdOrFree_nil_freesOnly (s : State) (id : SlotId) : s.FreesOnly (s.holdOrFree id []) := by
  refine .foldl (fun s i => .ite (fun _ => ?_) fun _ => .refl s) _ s
  have huntouched : s.bufferTouched i [] = false := by
    unfold State.bufferTouched
    split <;> rfl
  rw [huntouched]
  exact s.freeBuffer_freesOnly i

theorem State.freeHeld_freesOnly (s : State) (id : SlotId) : s.FreesOnly (s.freeHeld id) := by
  refine .foldl (fun s i => ?_) _ s
  split
  · exact .ite (fun _ => s.freeBuffer_freesOnly i) fun _ => .refl s
  · exact .refl s

/-- The pass over some buffers that frees those not RETIRED. -/
def State.freeAmong (s : State) (l : List (Fin 64)) : State :=
  l.foldl (fun s i => if (s.buffer i).state = .retired then s else s.freeBuffer i) s

theorem State.freeAmong_freesOnly (l : List (Fin 64)) (s : State) : s.FreesOnly (s.freeAmong l) :=
  .foldl (fun s i => .ite (fun _ => .refl s) fun _ => s.freeBuffer_freesOnly i) l s

/-- The pass reaches each of the buffers it is given. -/
theorem State.freeAmong_buffer {l : List (Fin 64)} {s : State} {i : Fin 64} (hi : i ∈ l) (hne : (s.buffer i).state ≠ .retired) :
    (s.freeAmong l).buffer i = ⟨.free, none⟩ := by
  induction l generalizing s with
  | nil => nomatch hi
  | cons j l ih =>
    have hcons : s.freeAmong (j :: l) = (s.freeAmong [j]).freeAmong l := rfl
    have hj : s.freeAmong [j] = if (s.buffer j).state = .retired then s else s.freeBuffer j := rfl
    rw [hcons]
    by_cases hin : i ∈ l
    · refine ih hin ?_
      rcases (s.freeAmong_freesOnly [j]).2 i with e | ⟨-, e⟩
      · rwa [e]
      · rw [e]; decide
    · obtain rfl : i = j := (List.mem_cons.1 hi).resolve_right hin
      have hfree : (s.freeAmong [i]).buffer i = ⟨.free, none⟩ := by rw [hj, if_neg hne, State.freeBuffer_buffer hne, if_pos rfl]
      rcases ((s.freeAmong [i]).freeAmong_freesOnly l).2 i with e | ⟨-, e⟩
      · exact e.trans hfree
      · exact e

/-- RESTART and entry to HALTED: every buffer not RETIRED becomes FREE, and the promised count 0 (R158). -/
theorem State.freeAllBuffers_eq (s : State) : ∃ (spl : Spl) (w : Bool), s.freeAllBuffers = (s.withSpl spl).withWake w ∧
    spl.promised = 0 ∧ ∀ i : Fin 64, spl.buffers[i] = if (s.buffer i).state = .retired then s.buffer i else ⟨.free, none⟩ := by
  have hall : s.freeAllBuffers = (s.freeAmong (List.finRange 64)).withSpl
      { (s.freeAmong (List.finRange 64)).spl with promised := 0 } := by
    simp only [State.freeAllBuffers, State.freeAmong]
  obtain ⟨⟨bufs, w, heq⟩, hfreed⟩ := s.freeAmong_freesOnly (List.finRange 64)
  have hbuffer : ∀ i : Fin 64, bufs[i] = (s.freeAmong (List.finRange 64)).buffer i := fun i => by rw [heq]; rfl
  refine ⟨{ s.spl with buffers := bufs, promised := 0 }, w, ?_, rfl, fun i => ?_⟩
  · rw [hall, heq]
    rfl
  · rw [hbuffer]
    split
    · next h => exact (hfreed i).resolve_right fun k => k.1 h
    · next h => exact State.freeAmong_buffer (List.mem_finRange i) h

end Sys2Proof.Machine

/-! ## What the drain engine keeps of packs given up (R172) -/

namespace Sys2Proof.Machine

/-- The drain engine with the packs of some slots given up: their segments leave the queue, and a current pack of theirs leaves with its window
and timeout, its abandon record waiting unless the port is UP. -/
def Drn.without (d : Drn) (p : SlotId → Bool) : Drn where
  port := d.port
  queue := d.queue.filter fun x => !p x.slot
  current := if (d.current.filter fun c => p c.slot).isSome then none else d.current
  window := if (d.current.filter fun c => p c.slot).isSome then [] else d.window
  deadline := if (d.current.filter fun c => p c.slot).isSome then none else d.deadline
  abandon := match d.current.filter fun c => p c.slot with
    | some c => if d.port = .up then none else some ⟨c.epoch, c.seq, c.stored⟩
    | none => d.abandon

/-- The ABANDON that leaves at once where the current pack is given up with the port UP. -/
def Drn.abandons (d : Drn) (station : Station) (p : SlotId → Bool) : List Emission :=
  match d.current.filter fun c => p c.slot with
  | some c => if d.port = .up then [.message (.abandon station c.epoch c.seq c.stored)] else []
  | none => []

theorem Drn.without_none (d : Drn) : d.without (fun _ => false) = d := by
  cases d
  simp [Drn.without]

theorem Drn.abandons_none (d : Drn) (station : Station) : d.abandons station (fun _ => false) = [] := by
  simp [Drn.abandons]

/-- Packs given up one after the other are given up together. -/
theorem Drn.without_without (d : Drn) (p q : SlotId → Bool) : (d.without p).without q = d.without fun id => p id || q id := by
  obtain ⟨port, queue, current, window, abandon, deadline⟩ := d
  have hqueue : (queue.filter fun x => !p x.slot).filter (fun x => !q x.slot) = queue.filter fun x => !(p x.slot || q x.slot) := by
    rw [List.filter_filter]
    exact List.filter_congr fun x _ => by rw [Bool.not_or, Bool.and_comm]
  cases current with
  | none => simp [Drn.without, hqueue]
  | some c => cases hp : p c.slot <;> cases hq : q c.slot <;> simp [Drn.without, Option.filter_some, hqueue, hp, hq]

theorem Drn.abandons_append (d : Drn) (station : Station) (p q : SlotId → Bool) :
    d.abandons station p ++ (d.without p).abandons station q = d.abandons station fun id => p id || q id := by
  obtain ⟨port, queue, current, window, abandon, deadline⟩ := d
  cases current with
  | none => simp [Drn.abandons, Drn.without]
  | some c => cases hp : p c.slot <;> cases hq : q c.slot <;> simp [Drn.abandons, Drn.without, Option.filter_some, hp, hq]

/-- The drain engine's part in an abort, in one (R172, R173). -/
theorem State.abortDrain_eq (s : State) (id : SlotId) : ∃ counters : Vector Counter 84, s.abortDrain id =
    ((s.withDrn (s.drn.without fun j => j = id)).withEmitted
      (s.emitted ++ s.drn.abandons s.lif.station fun j => j = id)).withCounters counters := by
  unfold State.abortDrain
  dsimp only [State.withDrn_drn]
  cases hc : s.drn.current with
  | none => exact ⟨s.counters, by simp [Drn.without, Drn.abandons, hc, State.withDrn, State.withEmitted, State.withCounters]⟩
  | some c =>
    by_cases hid : c.slot = id
    · cases hport : s.drn.port with
      | down =>
        refine ⟨s.counters, ?_⟩
        simp [Drn.without, Drn.abandons, hc, hid, hport, Option.filter_some, State.withDrn, State.withEmitted, State.withCounters]
      | up =>
        refine ⟨(s.bump .abandonsSent).counters, ?_⟩
        simp [Drn.without, Drn.abandons, hc, hid, hport, Option.filter_some, State.withDrn, State.withEmitted, State.withCounters,
          State.issueAbandon, State.emit, State.bump, State.count]
    · refine ⟨s.counters, ?_⟩
      simp [Drn.without, Drn.abandons, hc, hid, Option.filter_some, State.withDrn, State.withEmitted, State.withCounters]

end Sys2Proof.Machine

/-! ## The abort of a pack without a carry (R178, R189 to R192) -/

namespace Sys2Proof.Machine

/-! ### The parts that find nothing to do -/

theorem State.setSlot_slot_eq (s : State) (id j : SlotId) (x : Slot) : (s.setSlot id x).slot j = if j = id then x else s.slot j := by
  cases id <;> cases j <;> rfl

theorem State.stopBeaconTimer_of_none {s : State} (h : s.pvw.timer = none) : s.stopBeaconTimer = s := by
  have hsame : { s.pvw with timer := none } = s.pvw := by rw [← h]
  rw [State.stopBeaconTimer, hsame]
  rfl

theorem State.triggerBeacon_silent {s : State} (h : ¬ (s.mgt.run = .run ∨ s.mgt.run = .quiescing)) (id : SlotId) (p : PackPhase) :
    s.triggerBeacon id p = s := if_neg h

theorem State.orphanClaims_of_none {s : State} (h : s.sel.claims = []) (id : SlotId) :
    s.withSel { s.sel with claims := orphanClaims id s.sel.claims } = s := by
  have hsel : s.sel = ⟨[], s.sel.sweepAt⟩ := by rw [← h]
  have hsame : { s.sel with claims := orphanClaims id s.sel.claims } = s.sel := by rw [hsel]; rfl
  rw [hsame]
  rfl

/-- With no fetch queued or running an abort gives up none and takes none (R139). -/
theorem State.abortFetches_of_none {s : State} (h : s.fen = {})
    (id : SlotId) : s.abortFetches id = s := by
  have hqueue : s.withFen { s.fen with queue := s.fen.queue.filter fun r => r.slot ≠ id } = s := by
    have hsame : { s.fen with queue := s.fen.queue.filter fun r => r.slot ≠ id } = s.fen := by rw [h]; rfl
    rw [hsame]
    rfl
  have hslots : ∀ i : Fin 4, (if s.fetchesFor id i then s.dropFetch i else s) = s := fun i => by
    have hfree : s.fetchesFor id i = false := by simp [State.fetchesFor, h]
    rw [hfree]
    rfl
  have htake : s.takeFetches = s := by simp [State.takeFetches, State.takeFetchesN, h]
  unfold State.abortFetches
  dsimp only
  rw [hqueue, List.foldl_fixed' hslots, htake]

/-- Without a target every member that is not VOID is released with the cause's reason (R179, R189). -/
theorem abortReleases_untargeted (reason : ReleaseReason) (offers : Member → Bool) (n : Nat) (ms : List Member) :
    abortReleases reason offers false n ms = (ms.filter fun m => !m.state.isVoid).map fun m => ⟨m.file.pair, reason⟩ := by
  induction ms with
  | nil => rfl
  | cons m ms ih => cases hv : m.state.isVoid <;> simp [abortReleases, hv, ih]

theorem State.queueReleases_eq (s : State) (rs : List Release) : ∃ (counters : Vector Counter 84) (releases : List Release),
    s.queueReleases rs = (s.withAru { s.aru with releases := releases }).withCounters counters ∧
    (s.aru.releases.length + rs.length ≤ 8200 → releases = s.aru.releases ++ rs) := by
  induction rs generalizing s with
  | nil => exact ⟨s.counters, s.aru.releases, rfl, fun _ => (List.append_nil _).symm⟩
  | cons r rs ih =>
    obtain ⟨counters, releases, heq, hroom⟩ := ih (s.queueRelease r.pair r.reason)
    have hcons : s.queueReleases (r :: rs) = (s.queueRelease r.pair r.reason).queueReleases rs := rfl
    rw [hcons, heq]
    by_cases hlen : s.aru.releases.length < 8200
    · have hjoins : s.queueRelease r.pair r.reason = (s.withAru { s.aru with releases := s.aru.releases ++ [r] }).bump .releasesQueued :=
        if_pos hlen
      rw [hjoins] at hroom ⊢
      refine ⟨counters, releases, rfl, fun h => ?_⟩
      rw [hroom (by simp at h ⊢; omega)]
      simp
    · have hfull : s.queueRelease r.pair r.reason = s.bump .releaseOverflows := if_neg hlen
      rw [hfull]
      exact ⟨counters, releases, rfl, fun h => absurd h (by simp; omega)⟩

/-! ### The steps of the abort -/

/-- What RESTART and entry to HALTED have brought about before they abort the packs (R97, R142, R192): no claim, no fetch and no copy is left,
and the run state is one in which no beacon is sent. -/
structure State.HandsEmpty (s : State) : Prop where
  claims : s.sel.claims = []
  fetches : s.fen = {}
  copies : s.aru.copies = []
  timer : s.pvw.timer = none
  silent : ¬ (s.mgt.run = .run ∨ s.mgt.run = .quiescing)

section
variable {s : State} {id : SlotId} {cause : AbortCause}

theorem State.abortBegin_eq (h : s.HandsEmpty) : ∃ (counters : Vector Counter 84) (n : Nat), s.abortBegin id cause =
    (((((s.setSlot id { s.slot id with state := .aborted, ageDeadline := none, commitPoint := none }).withSpl
      { s.spl with promised := n }).withDrn (s.drn.without fun j => j = id)).withEmitted
      (s.emitted ++ s.drn.abandons s.lif.station fun j => j = id))).withCounters counters := by
  have hbeacon : (s.bump cause.counter).triggerBeacon id .aborted = s.bump cause.counter :=
    State.triggerBeacon_silent (s := s.bump cause.counter) h.silent _ _
  have htimer : (if (s.slot id).state.accepting = true then (s.bump cause.counter).stopBeaconTimer else s.bump cause.counter) =
      s.bump cause.counter := by
    rw [State.stopBeaconTimer_of_none (s := s.bump cause.counter) h.timer, ite_self]
  unfold State.abortBegin
  dsimp only
  rw [hbeacon, htimer]
  generalize hu : State.recomputePromised _ = u
  obtain ⟨n, hn⟩ : ∃ n, u = (((s.bump cause.counter).setSlot id
      { s.slot id with state := .aborted, ageDeadline := none, commitPoint := none }).withSpl { s.spl with promised := n }) := by
    rw [← hu]
    exact ⟨_, by simp [State.recomputePromised]; rfl⟩
  have hclaims : u.withSel { u.sel with claims := orphanClaims id u.sel.claims } = u :=
    State.orphanClaims_of_none (by rw [hn]; simpa using h.claims) id
  have hfetch : u.abortFetches id = u := State.abortFetches_of_none (by rw [hn]; simpa using h.fetches) id
  rw [hclaims, hfetch]
  obtain ⟨counters, heq⟩ := u.abortDrain_eq id
  refine ⟨counters, n, ?_⟩
  rw [heq, hn]
  cases id <;> rfl

/-- With no member offered the plan of an abort only frees buffers (R183). -/
theorem State.abortPlan_none (s : State) (id : SlotId) : ∃ t, s.abortPlan id [] none = (t, 0) ∧ s.FreesOnly t :=
  ⟨_, by simp [State.abortPlan], (s.freeUntouched_freesOnly id []).trans (State.holdOrFree_nil_freesOnly _ id)⟩

/-- What the abort of a pack without a carry releases: its members not VOID, with the cause's reason (R179, R189). -/
def State.packReleases (s : State) (reason : ReleaseReason) (id : SlotId) : List Release :=
  ((s.slot id).members.filter fun m => !m.state.isVoid).map fun m => ⟨m.file.pair, reason⟩

theorem State.abortFinish_uncarried (h : (s.slot id).state = .aborted) (r : PackRecord) :
    s.abortFinish id 0 r = (s.queueRecord r).clearSlot id := by
  rw [State.abortFinish, if_pos h, if_pos rfl]

/-- An abort without a carry, once the hands are empty: the slot is FREE again, the pack's record is queued, its releases join the list, and its
part of the drain engine and of the pool is given up. -/
theorem State.abortPack_eq (h : s.HandsEmpty) (ha : (s.slot id).state.abortable = true) (hc : cause.plansCarry = false) :
    ∃ (counters : Vector Counter 84) (spl : Spl) (releases : List Release) (r : PackRecord),
      s.abortPack id cause = (((((((s.setSlot id {}).withSpl spl).withDrn (s.drn.without fun j => j = id)).withEmitted
        (s.emitted ++ s.drn.abandons s.lif.station fun j => j = id)).withMgt { s.mgt with records := s.mgt.records ++ [r] }).withAru
        { s.aru with releases := releases }).withCounters counters).withWake true ∧
      (s.aru.releases.length + (s.packReleases cause.reason id).length ≤ 8200 →
        releases = s.aru.releases ++ s.packReleases cause.reason id) ∧
      (r.seq, r.outcome) = ((s.slot id).seq, .aborted cause) ∧
      ∀ i : Fin 64, spl.buffers[i] = s.buffer i ∨ ((s.buffer i).state ≠ .retired ∧ spl.buffers[i] = ⟨.free, none⟩) := by
  obtain ⟨counters, n, hbegin⟩ := State.abortBegin_eq (id := id) (cause := cause) h
  have hbuffers : (s.abortBegin id cause).spl.buffers = s.spl.buffers := by rw [hbegin]; simp
  have hmembers : ((s.abortBegin id cause).slot id).members = (s.slot id).members := by rw [hbegin]; simp
  obtain ⟨u, hplan, ⟨bufs, w, hu⟩, hfreed⟩ := (s.abortBegin id cause).abortPlan_none id
  rw [hbegin] at hu
  obtain ⟨counters', releases, hqueue, hroom⟩ := u.queueReleases_eq (s.packReleases cause.reason id)
  have hstop : ∀ v : State, v.stopCarryInto id s.aru.copies = v := fun v => by rw [h.copies]; rfl
  unfold State.abortPack
  rw [if_pos ha]
  simp only [hc, Bool.false_and, Bool.false_eq_true, if_false, List.isEmpty_nil, if_true, hplan, Option.isSome_none,
    abortReleases_untargeted, hmembers, hstop]
  refine ⟨counters', { s.spl with buffers := bufs, promised := n }, releases,
    { s.abortedRecord id cause with
      carriedOut := 0, released := (s.abortedRecord id cause).released + (s.packReleases cause.reason id).length },
    ?_, ?_, rfl, fun i => ?_⟩
  · rw [← State.packReleases, hqueue, State.abortFinish_uncarried (by rw [hu]; simp), hu]
    cases id <;> rfl
  · rw [hu] at hroom
    simpa using hroom
  · have hi := (State.BuffersFreed.of_buffers hbuffers).trans hfreed i
    rw [hu] at hi
    exact hi

end

end Sys2Proof.Machine

/-! ## Everything given up (R92, R142, R158, R172, R189 to R192, R204) -/

namespace Sys2Proof.Machine

/-! ### Giving up, stage by stage -/

/-- From s to t the slots of `emptied` and `aborted` have become FREE, the latter by aborts without carry in this order: records with these
sequences and outcomes are queued, the aborted packs' releases join the list while it has room, their part of the drain engine is given up, and
buffers become FREE. -/
structure State.GivesUp (reason : ReleaseReason) (emptied aborted : List SlotId) (own : List (Word32 × PackOutcome)) (s t : State) : Prop where
  slots : ∀ id, t.slot id = if id ∈ emptied ∨ id ∈ aborted then {} else s.slot id
  records : ∃ rs, t.mgt = { s.mgt with records := s.mgt.records ++ rs } ∧ rs.map (fun r => (r.seq, r.outcome)) = own
  releases : s.aru.releases.length + (aborted.flatMap (s.packReleases reason)).length ≤ 8200 →
    t.aru.releases = s.aru.releases ++ aborted.flatMap (s.packReleases reason)
  drn : t.drn = s.drn.without fun id => decide (id ∈ aborted)
  emitted : t.emitted = s.emitted ++ s.drn.abandons s.lif.station fun id => decide (id ∈ aborted)
  buffers : s.BuffersFreed t
  nextSeq : t.pkb.nextSeq = s.pkb.nextSeq
  copies : s.aru.copies = [] → t.aru.copies = []
  lif : t.lif = s.lif
  oft : t.oft = s.oft
  pvw : t.pvw = s.pvw
  sel : t.sel = s.sel
  fen : t.fen = s.fen
  mem : t.mem = s.mem

/-- A stage that aborts no pack leaves the drain engine, the release list and what was emitted. -/
theorem State.GivesUp.of_noAbort {reason : ReleaseReason} {emptied : List SlotId} {own : List (Word32 × PackOutcome)} {s t : State}
    (slots : ∀ id, t.slot id = if id ∈ emptied then {} else s.slot id)
    (records : ∃ rs, t.mgt = { s.mgt with records := s.mgt.records ++ rs } ∧ rs.map (fun r => (r.seq, r.outcome)) = own)
    (buffers : s.BuffersFreed t) (nextSeq : t.pkb.nextSeq = s.pkb.nextSeq) (releases : t.aru.releases = s.aru.releases)
    (copies : s.aru.copies = [] → t.aru.copies = []) (drn : t.drn = s.drn) (emitted : t.emitted = s.emitted) (lif : t.lif = s.lif)
    (oft : t.oft = s.oft) (pvw : t.pvw = s.pvw) (sel : t.sel = s.sel) (fen : t.fen = s.fen) (mem : t.mem = s.mem) :
    State.GivesUp reason emptied [] own s t where
  slots := by simpa using slots
  records := records
  releases := fun _ => by simpa using releases
  drn := by simpa [Drn.without_none] using drn
  emitted := by simpa [Drn.abandons_none] using emitted
  buffers := buffers
  nextSeq := nextSeq
  copies := copies
  lif := lif
  oft := oft
  pvw := pvw
  sel := sel
  fen := fen
  mem := mem

section
variable {reason : ReleaseReason} {emptied emptied' aborted aborted' : List SlotId} {own own' : List (Word32 × PackOutcome)} {s t u : State}

theorem State.packReleases_congr {id : SlotId} (h : t.slot id = s.slot id) : t.packReleases reason id = s.packReleases reason id := by
  rw [State.packReleases, h, State.packReleases]

/-- Stages one after the other, where no slot is aborted that an earlier one has set FREE. -/
theorem State.GivesUp.trans (h : State.GivesUp reason emptied aborted own s t) (k : State.GivesUp reason emptied' aborted' own' t u)
    (hnew : ∀ id ∈ aborted', id ∉ emptied ∧ id ∉ aborted) :
    State.GivesUp reason (emptied ++ emptied') (aborted ++ aborted') (own ++ own') s u := by
  have hsame : ∀ id ∈ aborted', t.slot id = s.slot id := fun id hid => by
    rw [h.slots, if_neg (not_or.2 (hnew id hid))]
  have hreleases : aborted'.flatMap (t.packReleases reason) = aborted'.flatMap (s.packReleases reason) :=
    List.flatMap_congr fun id hid => State.packReleases_congr (hsame id hid)
  have hmember : (fun id => decide (id ∈ aborted) || decide (id ∈ aborted')) = fun id => decide (id ∈ aborted ++ aborted') := by
    funext id
    simp [List.mem_append]
  obtain ⟨rs, hmgt, hrs⟩ := h.records
  obtain ⟨rs', kmgt, krs⟩ := k.records
  exact {
    slots := fun id => by
      rw [k.slots, h.slots]
      simp only [List.mem_append]
      split_ifs <;> tauto
    records := ⟨rs ++ rs', by rw [kmgt, hmgt, List.append_assoc], by rw [List.map_append, hrs, krs]⟩
    releases := fun hroom => by
      rw [List.flatMap_append, List.length_append] at hroom
      have hfirst := h.releases (by omega)
      have hsecond := k.releases (by rw [hfirst, hreleases, List.length_append]; omega)
      rw [hsecond, hfirst, hreleases, List.flatMap_append, List.append_assoc]
    drn := by rw [k.drn, h.drn, Drn.without_without, hmember]
    emitted := by rw [k.emitted, h.emitted, h.drn, h.lif, List.append_assoc, Drn.abandons_append, hmember]
    buffers := h.buffers.trans k.buffers
    nextSeq := k.nextSeq.trans h.nextSeq
    copies := fun hc => k.copies (h.copies hc)
    lif := k.lif.trans h.lif
    oft := k.oft.trans h.oft
    pvw := k.pvw.trans h.pvw
    sel := k.sel.trans h.sel
    fen := k.fen.trans h.fen
    mem := k.mem.trans h.mem }

theorem State.GivesUp.refl (reason : ReleaseReason) (s : State) : State.GivesUp reason [] [] [] s s :=
  .of_noAbort (fun _ => by simp) ⟨[], by simp, rfl⟩ (.refl s) rfl rfl id rfl rfl rfl rfl rfl rfl rfl rfl

end

/-! ### FORMING slots and carries -/

theorem State.abandonIfForming_givesUp (reason : ReleaseReason) (s : State) (id : SlotId) :
    State.GivesUp reason (if (s.slot id).state = .forming then [id] else []) [] [] s (s.abandonIfForming id) := by
  unfold State.abandonIfForming
  split
  · refine .of_noAbort (fun j => ?_) ⟨[], by simp [State.abandonForm, State.clearSlot], rfl⟩ (.of_buffers ?_) ?_ ?_ ?_ ?_ ?_ ?_ ?_ ?_ ?_ ?_ ?_
    · simp [State.abandonForm, State.clearSlot, State.setSlot_slot_eq]
    all_goals simp [State.abandonForm, State.clearSlot]
  · exact .refl reason s

/-- The slot of the running carry, as a list. -/
def State.carrying (s : State) : List SlotId := s.carryingSlot.toList

/-- The end of a carry: its HELD buffers become FREE, its record is queued, and its slot is FREE again (R186). -/
theorem State.endCarry_eq {s : State} {id : SlotId} (h : s.carryingSlot = some id) : s.endCarry =
    ((s.freeHeld id).withMgt { s.mgt with records := s.mgt.records ++ (s.slot id).record.toList }).clearSlot id := by
  have hslot : (s.freeHeld id).slot id = s.slot id := State.slot_of_pkb (s.freeHeld_pkb id) id
  have hmgt : (s.freeHeld id).mgt = s.mgt := by
    obtain ⟨⟨bufs, w, heq⟩, -⟩ := s.freeHeld_freesOnly id
    rw [heq]
    rfl
  simp only [State.endCarry, h]
  generalize s.freeHeld id = u at hslot hmgt ⊢
  rw [hslot, ← hmgt]
  cases (s.slot id).record with
  | none => simp [State.withMgt]
  | some r => rfl

theorem State.endCarry_givesUp (reason : ReleaseReason) (s : State) :
    State.GivesUp reason s.carrying [] (s.carrying.flatMap fun id => (s.slot id).carriedRecord) s s.endCarry := by
  unfold State.carrying
  cases hc : s.carryingSlot with
  | none =>
    rw [State.endCarry, hc]
    exact .refl reason s
  | some id =>
    have hslot : ∀ j, (s.freeHeld id).slot j = s.slot j := State.slot_of_pkb (s.freeHeld_pkb id)
    obtain ⟨⟨bufs, w, heq⟩, hfreed⟩ := s.freeHeld_freesOnly id
    rw [State.endCarry_eq hc]
    refine .of_noAbort (fun j => ?_) ⟨(s.slot id).record.toList, ?_, ?_⟩ (hfreed.trans (.of_buffers ?_)) ?_ ?_ ?_ ?_ ?_ ?_ ?_ ?_ ?_ ?_ ?_
    · simp [State.clearSlot, State.setSlot_slot_eq, hslot]
    · simp [State.clearSlot]
    · rw [Option.toList_some, List.flatMap_singleton, Slot.carriedRecord, State.carryingSlot_state hc]
      cases (s.slot id).record <;> rfl
    all_goals simp [heq, State.clearSlot]

theorem State.bumpBy_eq (s : State) (c : Ctr) (n : Nat) : ∃ counters : Vector Counter 84, s.bumpBy c n = s.withCounters counters := by
  induction n generalizing s with
  | zero => exact ⟨s.counters, rfl⟩
  | succ n ih => exact ih (s.bump c)

/-- The stop of a carry: no copy is left, and the CARRYING slot's record is queued (R186). -/
theorem State.stopCarry_givesUp (reason : ReleaseReason) (s : State) :
    State.GivesUp reason s.carrying [] (s.carrying.flatMap fun id => (s.slot id).carriedRecord) s s.stopCarry ∧
    s.stopCarry.aru.copies = [] := by
  obtain ⟨counters, hcounters⟩ := (s.withAru { s.aru with copies := [] }).bumpBy_eq .copiesStopped s.aru.copies.length
  have hstop : s.stopCarry = ((s.withAru { s.aru with copies := [] }).withCounters counters).endCarry := by
    rw [State.stopCarry, hcounters]
  have hcopies : State.GivesUp reason [] [] [] s ((s.withAru { s.aru with copies := [] }).withCounters counters) :=
    .of_noAbort (fun _ => by simp) ⟨[], by simp, rfl⟩ (.of_buffers rfl) rfl rfl (fun _ => rfl) rfl rfl rfl rfl rfl rfl rfl rfl
  have hend := ((s.withAru { s.aru with copies := [] }).withCounters counters).endCarry_givesUp reason
  rw [hstop]
  exact ⟨hcopies.trans hend nofun, hend.copies rfl⟩

/-! ### The aborts, one pack after the other -/

theorem State.abortPack_givesUp {s : State} {id : SlotId} {cause : AbortCause} (h : s.HandsEmpty)
    (ha : (s.slot id).state.abortable = true) (hc : cause.plansCarry = false) :
    State.GivesUp cause.reason [] [id] [((s.slot id).seq, .aborted cause)] s (s.abortPack id cause) := by
  obtain ⟨counters, spl, releases, r, heq, hreleases, hr, hbuffers⟩ := State.abortPack_eq h ha hc
  rw [heq]
  exact {
    slots := fun j => by simp [State.setSlot_slot_eq]
    records := ⟨[r], by simp, by simp [hr]⟩
    releases := by simpa using hreleases
    drn := by simp
    emitted := by simp
    buffers := hbuffers
    nextSeq := by simp
    copies := fun hcopies => by simpa using hcopies
    lif := by simp
    oft := by simp
    pvw := by simp
    sel := by simp
    fen := by simp
    mem := by simp }

theorem State.GivesUp.handsEmpty {reason : ReleaseReason} {emptied aborted : List SlotId} {own : List (Word32 × PackOutcome)} {s t : State}
    (h : State.GivesUp reason emptied aborted own s t) (hs : s.HandsEmpty) : t.HandsEmpty where
  claims := by rw [h.sel]; exact hs.claims
  fetches := by rw [h.fen]; exact hs.fetches
  copies := h.copies hs.copies
  timer := by rw [h.pvw]; exact hs.timer
  silent := by
    obtain ⟨rs, hmgt, -⟩ := h.records
    rw [hmgt]
    exact hs.silent

/-- The aborts of RESTART and entry to HALTED, over slots each named once (R192). -/
theorem State.foldl_abortPack_givesUp {cause : AbortCause} (hc : cause.plansCarry = false) {ids : List SlotId} (hn : ids.Nodup) {s : State}
    (h : s.HandsEmpty) :
    let packs := ids.filter fun id => (s.slot id).state.abortable
    State.GivesUp cause.reason [] packs (packs.map fun id => ((s.slot id).seq, .aborted cause)) s
      (ids.foldl (fun s id => s.abortPack id cause) s) := by
  induction ids generalizing s with
  | nil => exact .refl cause.reason s
  | cons id ids ih =>
    obtain ⟨hid, hn⟩ := List.nodup_cons.1 hn
    dsimp only at ih ⊢
    rw [List.foldl_cons]
    by_cases ha : (s.slot id).state.abortable = true
    · have hfirst := State.abortPack_givesUp h ha hc
      have hslot : ∀ j ∈ ids, (s.abortPack id cause).slot j = s.slot j := fun j hj => by
        have hne : j ≠ id := fun e => hid (e ▸ hj)
        rw [hfirst.slots, if_neg (by simpa using hne)]
      have hrest := ih hn (hfirst.handsEmpty h)
      have hpacks : (ids.filter fun j => ((s.abortPack id cause).slot j).state.abortable) = ids.filter fun j => (s.slot j).state.abortable :=
        List.filter_congr fun j hj => by rw [hslot j hj]
      have hseqs : (ids.filter fun j => (s.slot j).state.abortable).map (fun j => (((s.abortPack id cause).slot j).seq, PackOutcome.aborted cause)) =
          (ids.filter fun j => (s.slot j).state.abortable).map fun j => ((s.slot j).seq, .aborted cause) :=
        List.map_congr_left fun j hj => by rw [hslot j (List.mem_of_mem_filter hj)]
      rw [hpacks, hseqs] at hrest
      rw [List.filter_cons, if_pos ha]
      refine hfirst.trans hrest fun j hj => ⟨nofun, fun e => ?_⟩
      exact hid (List.mem_singleton.1 e ▸ List.mem_of_mem_filter hj)
    · rw [List.filter_cons, if_neg ha, State.abortPack, if_neg ha]
      exact ih hn h

end Sys2Proof.Machine

namespace Sys2Proof.Machine

/-! ### RESTART and entry to HALTED (R192) -/

theorem AbortCause.reason_eq (cause : AbortCause) : cause.reason = if cause = .restart then .restart else .abort := by
  cases cause <;> rfl

/-- The slots that are FORMING. -/
def State.formingSlots (s : State) : List SlotId := [SlotId.a, .b].filter fun id => (s.slot id).state = .forming

theorem State.mem_formingSlots (s : State) (id : SlotId) : id ∈ s.formingSlots ↔ (s.slot id).state = .forming := by
  cases id <;> simp [State.formingSlots]

theorem State.mem_carrying {s : State} {id : SlotId} (h : id ∈ s.carrying) : (s.slot id).state = .carrying :=
  State.carryingSlot_state (Option.mem_toList.1 h)

theorem State.abandonForming_givesUp (reason : ReleaseReason) (s : State) :
    State.GivesUp reason s.formingSlots [] [] s ((s.abandonIfForming .a).abandonIfForming .b) := by
  have ha := s.abandonIfForming_givesUp reason .a
  have hb := (s.abandonIfForming .a).abandonIfForming_givesUp reason .b
  have hslot : (s.abandonIfForming .a).slot .b = s.slot .b := by
    rw [ha.slots]
    split_ifs <;> simp_all
  have hlist : s.formingSlots = (if (s.slot .a).state = .forming then [.a] else []) ++ if (s.slot .b).state = .forming then [.b] else [] := by
    unfold State.formingSlots
    split_ifs <;> simp_all
  rw [hslot] at hb
  rw [hlist]
  exact ha.trans hb nofun

/-- Slots set FREE that were not CARRYING leave the running carry as it is. -/
theorem State.carrying_congr {s t : State} (h : ∀ id, t.slot id = s.slot id ∨ (t.slot id = {} ∧ (s.slot id).state ≠ .carrying)) :
    t.carrying = s.carrying := by
  have hstate : ∀ id, (t.slot id).state = .carrying ↔ (s.slot id).state = .carrying := fun id => by
    rcases h id with e | ⟨e, hne⟩
    · rw [e]
    · rw [e]; simpa using hne
  exact congrArg Option.toList (if_congr (hstate .a) rfl (if_congr (hstate .b) rfl rfl))

/-- The order of the two slots does not matter where one of them is left out. -/
theorem filter_order {p : SlotId → Bool} (h : ¬ (p .a = true ∧ p .b = true)) {c : Prop} [Decidable c] :
    (if c then [SlotId.b, .a] else [.a, .b]).filter p = [SlotId.a, .b].filter p := by
  cases ha : p .a <;> cases hb : p .b <;> split <;> simp_all

/-- Slots set FREE that could not be aborted leave the packs to abort as they are. -/
theorem State.abortableSlots_congr {s t : State}
    (h : ∀ id, t.slot id = s.slot id ∨ (t.slot id = {} ∧ (s.slot id).state.abortable = false)) : t.abortableSlots = s.abortableSlots := by
  have habortable : ∀ id, (t.slot id).state.abortable = (s.slot id).state.abortable := fun id => by
    rcases h id with e | ⟨e, hne⟩
    · rw [e]
    · rw [e, hne]; rfl
  unfold State.abortableSlots
  simp only [habortable]
  by_cases hboth : (s.slot .a).state.abortable = true ∧ (s.slot .b).state.abortable = true
  · have hsame : ∀ id, t.slot id = s.slot id := fun id =>
      (h id).resolve_right fun k => by cases id <;> simp_all
    rw [hsame, hsame]
  · rw [filter_order hboth, filter_order hboth]

theorem State.mem_abortableSlots (s : State) (id : SlotId) : id ∈ s.abortableSlots ↔ (s.slot id).state.abortable = true := by
  unfold State.abortableSlots
  cases id <;> split <;> simp

/-- The claims and fetches dropped, and the beacons silenced (R97, R142, R66). -/
def State.handsEmptied (s : State) : State := (s.withSel { claims := [], sweepAt := none }).cancelAllFetches.silenceBeacons

theorem State.clearSlots_givesUp (reason : ReleaseReason) (s : State) :
    let t := ((s.abandonIfForming .a).abandonIfForming .b).stopCarry
    State.GivesUp reason (s.formingSlots ++ s.carrying) [] (s.carrying.flatMap fun id => (s.slot id).carriedRecord) s t ∧ t.aru.copies = [] := by
  have hforming := s.abandonForming_givesUp reason
  generalize (s.abandonIfForming .a).abandonIfForming .b = u at hforming ⊢
  have hslots : ∀ id, u.slot id = s.slot id ∨ (u.slot id = {} ∧ (s.slot id).state ≠ .carrying) := fun id => by
    rw [hforming.slots]
    split
    · next h =>
      have hstate := (s.mem_formingSlots id).1 (h.resolve_right nofun)
      exact .inr ⟨rfl, by rw [hstate]; decide⟩
    · exact .inl rfl
  have hcarrying : u.carrying = s.carrying := State.carrying_congr hslots
  obtain ⟨hstop, hcopies⟩ := u.stopCarry_givesUp reason
  have hrecords : (u.carrying.flatMap fun id => (u.slot id).carriedRecord) = s.carrying.flatMap fun id => (s.slot id).carriedRecord := by
    rw [hcarrying]
    refine List.flatMap_congr fun id hid => ?_
    rw [(hslots id).resolve_right fun k => k.2 (State.mem_carrying hid)]
  rw [hrecords, hcarrying] at hstop
  exact ⟨hforming.trans hstop nofun, hcopies⟩

/-- What of the aborting goes before the buffers are freed: every slot not FREE that can be is set FREE, its record queued (R192). -/
theorem State.abortPacks_givesUp {s : State} {cause : AbortCause} (hc : cause.plansCarry = false) (hclaims : s.sel.claims = [])
    (hfetches : s.fen = {}) (htimer : s.pvw.timer = none) (hsilent : ¬ (s.mgt.run = .run ∨ s.mgt.run = .quiescing)) :
    let u := ((s.abandonIfForming .a).abandonIfForming .b).stopCarry
    let t := u.slotsBySeq.foldl (fun s id => s.abortPack id cause) u
    State.GivesUp cause.reason (s.formingSlots ++ s.carrying) s.abortableSlots
      ((s.carrying.flatMap fun id => (s.slot id).carriedRecord) ++ s.abortableSlots.map fun id => ((s.slot id).seq, .aborted cause)) s t ∧
    t.aru.copies = [] := by
  obtain ⟨hcleared, hcopies⟩ := s.clearSlots_givesUp cause.reason
  dsimp only at hcleared hcopies ⊢
  generalize ((s.abandonIfForming .a).abandonIfForming .b).stopCarry = u at hcleared hcopies ⊢
  have hempty : u.HandsEmpty := {
    claims := by rw [hcleared.sel]; exact hclaims
    fetches := by rw [hcleared.fen]; exact hfetches
    copies := hcopies
    timer := by rw [hcleared.pvw]; exact htimer
    silent := by
      obtain ⟨rs, hmgt, -⟩ := hcleared.records
      rw [hmgt]
      exact hsilent }
  have hfree : ∀ id ∈ s.formingSlots ++ s.carrying, (s.slot id).state.abortable = false := fun id hid => by
    rcases List.mem_append.1 hid with h | h
    · rw [(s.mem_formingSlots id).1 h]; rfl
    · rw [State.mem_carrying h]; rfl
  have hslots : ∀ id, u.slot id = s.slot id ∨ (u.slot id = {} ∧ (s.slot id).state.abortable = false) := fun id => by
    rw [hcleared.slots]
    split
    · next h => exact .inr ⟨rfl, hfree id (h.resolve_right nofun)⟩
    · exact .inl rfl
  have hpacks : (u.slotsBySeq.filter fun id => (u.slot id).state.abortable) = s.abortableSlots := State.abortableSlots_congr hslots
  have hnodup : u.slotsBySeq.Nodup := by
    unfold State.slotsBySeq
    split <;> decide
  have haborts := State.foldl_abortPack_givesUp hc hnodup hempty
  dsimp only at haborts
  have hseqs : s.abortableSlots.map (fun id => ((u.slot id).seq, PackOutcome.aborted cause)) =
      s.abortableSlots.map fun id => ((s.slot id).seq, .aborted cause) := List.map_congr_left fun id hid => by
    have hne : ¬ (s.slot id).state.abortable = false := by simp [(s.mem_abortableSlots id).1 hid]
    rw [(hslots id).resolve_right fun k => hne k.2]
  rw [hpacks, hseqs] at haborts
  have hall := hcleared.trans haborts fun id hid => ⟨fun k => ?_, nofun⟩
  · rw [List.append_nil] at hall
    exact ⟨hall, haborts.copies hcopies⟩
  · exact absurd ((s.mem_abortableSlots id).1 hid) (by simp [hfree id k])

theorem State.carrying_eq (s : State) :
    s.carrying = if (s.slot .a).state = .carrying then [.a] else if (s.slot .b).state = .carrying then [.b] else [] := by
  unfold State.carrying State.carryingSlot State.slot
  split_ifs <;> rfl

/-- What a CARRYING slot holds back, where not both are CARRYING, is queued in the order of the slots. -/
theorem State.carriedRecords (s : State) (h : ¬ ((s.slot .a).state = .carrying ∧ (s.slot .b).state = .carrying)) :
    (s.carrying.flatMap fun id => (s.slot id).carriedRecord) = (s.slot .a).carriedRecord ++ (s.slot .b).carriedRecord := by
  have hnone : ∀ x : Slot, x.state ≠ .carrying → x.carriedRecord = [] := fun x hx => by
    unfold Slot.carriedRecord
    split
    · exact absurd ‹_› hx
    · rfl
  rw [s.carrying_eq]
  split_ifs with ha hb
  · simp [hnone _ fun hb => h ⟨ha, hb⟩]
  · simp [hnone _ ha]
  · simp [hnone _ ha, hnone _ hb]

/-- Every slot in use that is not ABORTED is FORMING, CARRYING or from OPEN onward. -/
theorem State.slot_givenUp (s : State) {id : SlotId} (hnone : (s.slot id).state ≠ .aborted)
    (hone : ¬ ((s.slot .a).state = .carrying ∧ (s.slot .b).state = .carrying)) (hne : (s.slot id).state ≠ .free) :
    id ∈ s.formingSlots ++ s.carrying ∨ id ∈ s.abortableSlots := by
  rw [List.mem_append, s.mem_formingSlots, s.mem_abortableSlots, s.carrying_eq]
  cases hstate : (s.slot id).state with
  | free => exact absurd hstate hne
  | aborted => exact absurd hstate hnone
  | forming => exact .inl (.inl rfl)
  | opened | closing | closed | ending => exact .inr rfl
  | carrying =>
    refine .inl (.inr ?_)
    cases id with
    | a => rw [if_pos hstate]; exact List.mem_singleton_self _
    | b => rw [if_neg fun ha => hone ⟨ha, hstate⟩, if_pos hstate]; exact List.mem_singleton_self _

section
variable {s : State} {cause : AbortCause} (hc : cause.plansCarry = false) (hsilent : ¬ (s.mgt.run = .run ∨ s.mgt.run = .quiescing))
include hc hsilent

/-- The aborting of RESTART and entry to HALTED: the packs are given up, and then every buffer not RETIRED is FREE (R158, R192). -/
theorem State.abortEverything_givesUp : ∃ (v : State) (spl : Spl) (w : Bool), s.abortEverything cause = (v.withSpl spl).withWake w ∧
    State.GivesUp cause.reason (s.formingSlots ++ s.carrying) s.abortableSlots
      ((s.carrying.flatMap fun id => (s.slot id).carriedRecord) ++ s.abortableSlots.map fun id => ((s.slot id).seq, .aborted cause))
      s.handsEmptied v ∧
    v.aru.copies = [] ∧ spl.promised = 0 ∧
    ∀ i : Fin 64, spl.buffers[i] = if (s.buffer i).state = .retired then s.buffer i else ⟨.free, none⟩ := by
  obtain ⟨h, hcopies⟩ := State.abortPacks_givesUp (s := s.handsEmptied) hc rfl rfl rfl hsilent
  generalize hv : List.foldl _ _ _ = v at h hcopies
  obtain ⟨spl, w, hfreed, hpromised, hbuffers⟩ := v.freeAllBuffers_eq
  refine ⟨v, spl, w, ?_, h, hcopies, hpromised, fun i => ?_⟩
  · rw [← hfreed, ← hv]
    rfl
  · have hi : v.buffer i = s.buffer i ∨ ((s.buffer i).state ≠ .retired ∧ v.buffer i = ⟨.free, none⟩) := h.buffers i
    rw [hbuffers]
    rcases hi with e | ⟨hne, e⟩
    · rw [e]
    · rw [e, if_neg hne]; rfl

/-- What the aborting leaves of the blocks that have no part in it. -/
theorem State.abortEverything_frame : (∃ rs, (s.abortEverything cause).mgt = { s.mgt with records := s.mgt.records ++ rs }) ∧
    (s.abortEverything cause).lif = s.lif ∧ (s.abortEverything cause).oft = s.oft ∧
    (s.abortEverything cause).pvw = { s.pvw with items := [], timer := none } ∧ (s.abortEverything cause).fen = {} := by
  obtain ⟨v, spl, w, ht, h, -⟩ := State.abortEverything_givesUp hc hsilent
  obtain ⟨rs, hmgt, -⟩ := h.records
  rw [ht]
  exact ⟨⟨rs, hmgt⟩, h.lif, h.oft, h.pvw, h.fen⟩

/-- The aborting gives up what `State.givenUp` says. -/
theorem State.abortEverything_givenUp (hemitted : s.emitted = []) : s.givenUp (s.abortEverything cause) cause := by
  obtain ⟨v, spl, w, ht, h, hcopies, hpromised, hbuffers⟩ := State.abortEverything_givesUp hc hsilent
  have hpacks : (fun id => decide (id ∈ s.abortableSlots)) = fun id => (s.slot id).state.abortable := by
    funext id
    rw [Bool.eq_iff_iff, decide_eq_true_iff]
    exact s.mem_abortableSlots id
  have hdrn := h.drn
  have hemit := h.emitted
  rw [hpacks] at hdrn hemit
  obtain ⟨rs, hmgt, hrs⟩ := h.records
  rw [ht]
  refine ⟨h.sel, congrArg Fen.queue h.fen, fun i => ?_, congrArg Fen.items h.fen, hcopies, hpromised, hbuffers, hdrn, ?_,
    fun hnone hone => ⟨fun id => ?_, ⟨rs, congrArg Mgt.records hmgt, ?_⟩, fun _ hroom => ?_⟩, h.nextSeq, congrArg Lif.station h.lif, h.mem⟩
  · show v.fen.slots[i] = none
    rw [h.fen]
    exact Vector.getElem_replicate _
  · show v.emitted = _
    rw [hemit]
    show s.emitted ++ _ = _
    rw [hemitted]
    rfl
  · show (v.slot id).state = .free ∧ ((s.slot id).state ≠ .free → v.slot id = {})
    rw [h.slots]
    split
    · exact ⟨rfl, fun _ => rfl⟩
    · next hnot =>
      have hfree : (s.slot id).state = .free := by
        by_contra hne
        exact hnot (s.slot_givenUp (hnone id) hone hne)
      exact ⟨hfree, fun hne => absurd hfree hne⟩
  · rw [hrs, s.carriedRecords hone]
  · have hreleases : s.abortableSlots.flatMap (s.packReleases cause.reason) = s.givenUpReleases cause := by
      unfold State.givenUpReleases State.packReleases
      rw [AbortCause.reason_eq]
    have hjoined : v.aru.releases = s.aru.releases ++ s.abortableSlots.flatMap (s.packReleases cause.reason) :=
      h.releases (by rw [← hreleases] at hroom; exact hroom)
    exact ⟨hreleases ▸ hjoined, h.lif⟩

end

/-- What is given up is read from these pieces of the state alone. -/
theorem State.givenUp_congr {s t u : State} {cause : AbortCause} (h : s.givenUp t cause) (hsel : u.sel = t.sel) (hfen : u.fen = t.fen)
    (hcopies : u.aru.copies = t.aru.copies) (hspl : u.spl = t.spl) (hdrn : u.drn = t.drn) (hemitted : u.emitted = t.emitted)
    (hpkb : u.pkb = t.pkb) (hrecords : u.mgt.records = t.mgt.records) (hstation : u.lif.station = t.lif.station) (hmem : u.mem = t.mem)
    (hheld : t.lif.holder.isSome = true → u.aru = t.aru ∧ u.lif = t.lif) : s.givenUp u cause := by
  obtain ⟨gsel, gqueue, gslots, gitems, gcopies, gpromised, gbuffers, gdrn, gemitted, gpacks, gnextSeq, gstation, gmem⟩ := h
  have hslot : ∀ id, u.slot id = t.slot id := State.slot_of_pkb hpkb
  refine ⟨hsel.trans gsel, by rw [hfen, gqueue], fun i => by rw [hfen]; exact gslots i, by rw [hfen, gitems], hcopies.trans gcopies,
    by rw [hspl, gpromised], fun i => (State.buffer_congr hspl i).trans (gbuffers i), hdrn.trans gdrn, hemitted.trans gemitted,
    fun hnone hone => ?_, by rw [hpkb, gnextSeq], hstation.trans gstation, hmem.trans gmem⟩
  obtain ⟨gfree, ⟨own, grecords, gown⟩, greleases⟩ := gpacks hnone hone
  refine ⟨fun id => by rw [hslot]; exact gfree id, ⟨own, hrecords.trans grecords, gown⟩, fun hfull hroom => ?_⟩
  obtain ⟨hjoined, hlif⟩ := greleases hfull hroom
  obtain ⟨haru, hsame⟩ := hheld (by rw [hlif]; exact hfull)
  exact ⟨by rw [haru, hjoined], hsame.trans hlif⟩

/-- With no beacon and no claim to send and no fetch waiting, the arbiter takes up a release or nothing, and the wake-ups are spent. -/
theorem State.settle_silent {s : State} (hself : s.mgt.run ≠ .selftest) (hsilent : ¬ (s.mgt.run = .run ∨ s.mgt.run = .quiescing))
    (hitems : s.fen.items = []) : ∃ (lif : Lif) (aru : Aru) (counters : Vector Counter 84),
      s.settle = (((s.withLif lif).withAru aru).withCounters counters).withWake false ∧ lif.station = s.lif.station ∧
      aru.copies = s.aru.copies ∧ (s.lif.holder.isSome = true → aru = s.aru ∧ lif = s.lif) := by
  obtain ⟨hrun, hquiescing⟩ := not_or.1 hsilent
  have hadmit : s.noneToAdmit := .inl hrun
  have hquiet : s.quietNow = false := State.quietNow_unfinished fun k => absurd k hquiescing
  cases hh : s.lif.holder with
  | some frame =>
    exact ⟨s.lif, s.aru, s.counters, State.settle_noneToAdmit (show s.lif.holder.isSome = true by rw [hh]; rfl) hadmit hquiet, rfl, rfl,
      fun _ => ⟨rfl, rfl⟩⟩
  | none =>
    cases hr : s.aru.releases with
    | nil =>
      have harb : ∀ b, (s.withWake b).arbitrate = s.withWake b := fun b =>
        (State.arbitrate_empty (s := s.withWake b) hh hself).trans (State.arbiterChoice_none (s := s.withWake b) hr hitems (.inl hsilent))
      refine ⟨s.lif, s.aru, s.counters, ?_, rfl, rfl, nofun⟩
      have hround : s.roundIfWoken = s.withWake false := State.roundIfWoken_held (State.roundsHeld_runs (.inl hrun))
      have hspent : (s.withWake false).roundIfWoken = s.withWake false := rfl
      have hquiet' : (s.withWake false).quietNow = false := hquiet
      unfold State.settle
      rw [show s.arbitrate = s from harb s.wake, hround, harb, hspent, State.testQuiet, hquiet']
      rfl
    | cons r rest =>
      have htaken := (State.arbitrate_empty hh hself).trans (State.arbiterChoice_release hr)
      have hquiet' : (s.takeRelease r rest).quietNow = false := State.quietNow_unfinished fun k => absurd k hquiescing
      exact ⟨(s.takeRelease r rest).lif, { s.aru with releases := rest }, (s.bump .releasesSent).counters,
        State.settle_taken htaken rfl hadmit hquiet', rfl, rfl, nofun⟩

/-- The state in which the aborting of a RESTART begins: the run state is CONFIG already (R204). -/
def State.inConfig (s : State) : State := s.withMgt { s.mgt with run := .config, attentionHeld := s.returnsToHalted }

/-- What RESTART does around the aborting, block by block (R57, R72, R204). -/
theorem State.restarted_eq (s : State) :
    let u := s.inConfig.abortEverything .restart
    s.restarted = ((u.withMgt { s.mgt with
      run := .config, frozen := false, clock := none, restarting := true, attentionHeld := s.returnsToHalted
      records := u.mgt.records }).withOft
        ⟨if s.mgt.config.purge then [] else s.oft.candidates.map Candidate.atRestart⟩).withPvw
        { table := s.pvw.table.map fun y => { y with lastHeard := none }, items := [], timer := none, sweepAt := none } := by
  obtain ⟨⟨rs, hmgt⟩, hlif, hoft, hpvw, hfen⟩ :=
    State.abortEverything_frame (s := s.inConfig) (cause := .restart) rfl (by simp [State.inConfig])
  unfold State.restarted State.inConfig at *
  dsimp only
  generalize State.abortEverything _ _ = u at hmgt hlif hoft hpvw hfen ⊢
  unfold State.restartCandidates
  simp only [State.withMgt_mgt, State.withMgt_oft, hmgt, hoft]
  cases s.mgt.config.purge <;> simp [State.setCandidates, hpvw]

/-- RESTART gives up what the aborting does; the blocks' own rows of it touch nothing of that. -/
theorem State.restarted_givenUp {s : State} (hemitted : s.emitted = []) :
    s.givenUp s.restarted .restart ∧ s.restarted.fen.items = [] := by
  have hgivenUp := State.abortEverything_givenUp (s := s.inConfig) (cause := .restart) rfl (by simp [State.inConfig]) hemitted
  have hs : s.givenUp (s.inConfig.abortEverything .restart) .restart := hgivenUp
  rw [s.restarted_eq]
  generalize s.inConfig.abortEverything .restart = u at hs ⊢
  have ⟨_, _, _, hitems, _⟩ := hs
  exact ⟨State.givenUp_congr hs rfl rfl rfl rfl rfl rfl rfl rfl rfl rfl fun _ => ⟨rfl, rfl⟩, hitems⟩

theorem State.restarted_blocks (s : State) :
    s.restarted.mgt = { s.mgt with
      run := .config, frozen := false, clock := none, restarting := true, attentionHeld := s.returnsToHalted
      records := s.restarted.mgt.records } ∧
    s.restarted.oft = ⟨if s.mgt.config.purge then [] else s.oft.candidates.map Candidate.atRestart⟩ ∧
    s.restarted.pvw = { table := s.pvw.table.map fun y => { y with lastHeard := none }, items := [], timer := none, sweepAt := none } := by
  rw [s.restarted_eq]
  generalize s.inConfig.abortEverything .restart = u
  exact ⟨rfl, rfl, rfl⟩

theorem exec_restart {s : State} (params : List Byte) (hself : s.mgt.run ≠ .selftest) (hr : s.mgt.restarting = false) :
    exec (.restart params) s = .next (s.begin.restarted.answer .done []).settle :=
  congrArg Host.Outcome.next
    (State.command_acts (s := s.begin) (allowed := fun r => r ≠ .selftest) hself hr (by simp [hself]) _)

theorem State.returnsToHalted_eq (s : State) :
    s.returnsToHalted = decide (s.inService < 24 ∧ (s.mgt.run = .halted ∨ s.mgt.attentionHeld = true)) := by
  simp [State.returnsToHalted]

theorem State.attention_config {s : State} (h : s.mgt.run = .config) :
    s.attention = true ↔ s.mgt.records ≠ [] ∨ s.mgt.attentionHeld = true := by
  simp [State.attention, h]

/-- Settles O53: RESTART gives up what is in hand, and the answer and the arbiter's turn after it touch none of that. -/
theorem restart : Obligations.Restart := by
  intro params s hself hr back
  obtain ⟨hgivenUp, hitems⟩ := State.restarted_givenUp (s := s.begin) rfl
  obtain ⟨hmgt, hoft, hpvw⟩ := s.begin.restarted_blocks
  rw [exec_restart params hself hr]
  generalize s.begin.restarted = u at hgivenUp hitems hmgt hoft hpvw ⊢
  obtain ⟨answered, hanswer, -⟩ := u.answer_eq .done []
  have hrun : (u.answer .done []).mgt.run = .config := by rw [hanswer]; exact congrArg Mgt.run hmgt
  obtain ⟨lif, aru, counters, hsettle, hstation, hcopies, hheld⟩ :=
    State.settle_silent (s := u.answer .done []) (by simp [hrun]) (by simp [hrun]) (by rw [hanswer]; exact hitems)
  rw [hanswer] at hsettle hstation hcopies hheld
  have hback : u.mgt.attentionHeld = decide back := by rw [hmgt]; exact s.returnsToHalted_eq
  rw [hanswer, hsettle]
  refine ⟨_, rfl, ?_, ?_, ?_, hoft, hpvw⟩
  · exact State.givenUp_congr (s := s) hgivenUp rfl rfl hcopies rfl rfl rfl rfl rfl hstation rfl hheld
  · refine (State.attention_config (congrArg Mgt.run hmgt)).trans (or_congr_right ?_)
    exact (Bool.eq_iff_iff.1 hback).trans decide_eq_true_iff
  · show { u.mgt with response := some ⟨.done, [], false⟩ } = _
    rw [← hback, hmgt]
    rfl

end Sys2Proof.Machine

/-! ## Settling with a FULL holder (R37, R75, R202) -/

namespace Sys2Proof.Machine

section
variable {s t : State} {id : SlotId}

theorem State.accepting_congr (h : t.pkb = s.pkb) : t.accepting = s.accepting := by
  unfold State.accepting
  rw [h]

/-- Which slot accepts is told by the states of the slots, so a slot that accepts or not as before leaves it. -/
theorem State.accepting_setSlot {x : Slot} (h : x.state.accepting = (s.slot id).state.accepting) :
    (s.setSlot id x).accepting = s.accepting := by
  cases id with
  | a => exact if_congr (Bool.eq_iff_iff.1 h) rfl rfl
  | b => exact if_congr Iff.rfl rfl (if_congr (Bool.eq_iff_iff.1 h) rfl rfl)

/-- A slot in an accepting state with none beside it holds the accepting pack (R99). -/
theorem State.accepting_eq_some (h : (s.slot id).state.accepting = true) (hother : (s.slot id.other).state.accepting = false) :
    s.accepting = some id := by
  cases id with
  | a => exact if_pos h
  | b => exact (if_neg (Bool.eq_false_iff.1 hother)).trans (if_pos h)

/-- No round runs while the accepting pack is CLOSING (R75). -/
theorem State.roundRuns_closing (hacc : s.accepting = some id) (h : (s.slot id).state = .closing) : s.roundRuns = false := by
  simp [State.roundRuns, hacc, h]

theorem State.testQuiet_early (h : s.quietNow = false) : s.testQuiet = s := by
  simp [State.testQuiet, h]

/-- Entry to QUIET (R66, R202). -/
theorem State.testQuiet_due (hrun : s.mgt.run = .quiescing) (hfree : ∀ id, (s.slot id).state = .free) (hr : s.aru.releases = []) :
    s.testQuiet = (s.withMgt { s.mgt with run := .quiet }).withPvw { s.pvw with items := [], timer := none } := by
  have ha : s.pkb.slotA.state = .free := hfree .a
  have hb : s.pkb.slotB.state = .free := hfree .b
  have hq : s.quietNow = true := by simp [State.quietNow, hrun, hr, ha, hb]
  rw [State.testQuiet, if_pos hq]
  rfl

/-- With a FULL holder and no round to run, the wake-ups are spent and the QUIET test is all that follows (R37, R75, R202). -/
theorem State.settle_held (hl : s.holderFull) (hr : s.roundRuns = false) : s.settle = (s.withWake false).testQuiet := by
  have hspent : (s.withWake false).roundIfWoken = s.withWake false := rfl
  unfold State.settle
  rw [State.arbitrate_full hl, State.roundIfWoken_held hr, State.arbitrate_full (s := s.withWake false) hl, hspent]

theorem State.roundRuns_stopped (h : s.mgt.run ≠ .run) : s.roundRuns = false := State.roundsHeld_runs (.inl h)

end

end Sys2Proof.Machine

/-! ## The entry to CLOSING of a pack that stays there (R108 to R111) -/

namespace Sys2Proof.Machine

section
variable {s t : State} {id : SlotId}

/-- The entry to CLOSING where beacons are sent: the slot, a beacon item and the counter (R64, R65). -/
theorem State.closing_sending (hs : s.mgt.run = .run ∨ s.mgt.run = .quiescing) (cause : CloseCause) :
    s.closing id cause = State.bump ((s.setSlot id { s.slot id with state := .closing, ageDeadline := none }).withPvw
      { s.pvw with
        items := putItem ⟨id, s.mgt.config.epoch, (s.slot id).seq, .closing, (s.slot id).primaryKey.getD 0, fillOf (s.slot id).e,
          (s.slot id).members.length⟩ s.pvw.items
        timer := s.pvw.timer.filter (· ≤ s.now) }) cause.counter := by
  have hsending : (s.setSlot id { s.slot id with state := .closing, ageDeadline := none }).mgt.run = .run ∨
      (s.setSlot id { s.slot id with state := .closing, ageDeadline := none }).mgt.run = .quiescing := by
    rw [State.setSlot_mgt]; exact hs
  unfold State.closing State.triggerBeacon
  rw [if_pos hsending]
  cases id <;> rfl

theorem State.closing_pvw_sending (hs : s.mgt.run = .run ∨ s.mgt.run = .quiescing) (cause : CloseCause) : (s.closing id cause).pvw =
    { s.pvw with
      items := putItem ⟨id, s.mgt.config.epoch, (s.slot id).seq, .closing, (s.slot id).primaryKey.getD 0, fillOf (s.slot id).e,
        (s.slot id).members.length⟩ s.pvw.items
      timer := s.pvw.timer.filter (· ≤ s.now) } := by
  rw [State.closing_sending hs]
  rfl

/-! The entry to CLOSING changes the slot, the beacons and one counter, and nothing else. -/

section
variable (s : State) (id : SlotId) (cause : CloseCause)

theorem State.closing_pkb : (s.closing id cause).pkb = (s.setSlot id { s.slot id with state := .closing, ageDeadline := none }).pkb :=
  State.triggerBeacon_pkb ..

theorem State.closing_counters : (s.closing id cause).counters = (s.bump cause.counter).counters := by
  unfold State.closing State.triggerBeacon State.bump State.count
  split <;> simp

theorem State.closing_frame : (s.closing id cause).lif = s.lif ∧ (s.closing id cause).oft = s.oft ∧ (s.closing id cause).sel = s.sel ∧
    (s.closing id cause).fen = s.fen ∧ (s.closing id cause).spl = s.spl ∧ (s.closing id cause).drn = s.drn ∧
    (s.closing id cause).aru = s.aru ∧ (s.closing id cause).mgt = s.mgt ∧ (s.closing id cause).mem = s.mem := by
  unfold State.closing State.triggerBeacon
  split <;> simp

theorem State.closing_lif : (s.closing id cause).lif = s.lif := (s.closing_frame id cause).1

theorem State.closing_wake : (s.closing id cause).wake = s.wake := by
  unfold State.closing State.triggerBeacon
  split <;> simp

end

/-- An OPEN pack with a claim bound or a member unsettled stays CLOSING at a close trigger (R111). -/
theorem State.closeFor_stays (ho : (s.slot id).state = .opened) (hready : s.closeReady id = false) (cause : CloseCause) :
    s.closeFor id cause = s.closing id cause := by
  obtain ⟨-, -, hsel, -⟩ := s.closing_frame id cause
  have hopen : (s.closing id cause).closeReady id = false := by
    rw [State.closeReady_congr hsel (by rw [State.closing_slot]), hready]
  rw [State.closeFor_of_open ho, State.testClose, if_neg (by simp [hopen])]

theorem State.closeAccepting_stays (hacc : s.accepting = some id) (ho : (s.slot id).state = .opened) (hready : s.closeReady id = false)
    (cause : CloseCause) : s.closeAccepting cause = s.closing id cause := by
  rw [State.closeAccepting, hacc]
  exact State.closeFor_stays ho hready cause

/-- A close trigger finds nothing to do where no pack is OPEN (R110). -/
theorem State.closeFor_unopened (h : (s.slot id).state ≠ .opened) (cause : CloseCause) : s.closeFor id cause = s := if_neg h

theorem State.closeAccepting_unopened (h : ∀ id, s.accepting = some id → (s.slot id).state ≠ .opened) (cause : CloseCause) :
    s.closeAccepting cause = s := by
  cases hacc : s.accepting with
  | none => rw [State.closeAccepting, hacc]
  | some id =>
    rw [State.closeAccepting, hacc]
    exact State.closeFor_unopened (h id hacc) cause

/-- The accepting pack is the same through its entry to CLOSING (R99). -/
theorem State.closing_accepting (ho : (s.slot id).state = .opened) (cause : CloseCause) : (s.closing id cause).accepting = s.accepting := by
  rw [State.accepting_congr (s.closing_pkb id cause), State.accepting_setSlot (by rw [ho]; rfl)]

end

end Sys2Proof.Machine

/-! ## AGE_DEADLINE, CLOSE_NOW and QUIESCE (R109, R110, R202, R203) -/

namespace Sys2Proof.Machine

/-- A timer's expiry is due when the clock has reached it. -/
theorem State.due_some {s : State} {now : Nat} (hn : s.mgt.clock = some now) (e : Nat) : s.due (some e) = decide (e ≤ now) := by
  simp [State.due, hn]

theorem State.due_early {s : State} {now e : Nat} (hn : s.mgt.clock = some now) (h : now < e) : s.due (some e) = false := by
  rw [State.due_some hn, decide_eq_false_iff_not]
  omega

theorem State.due_reached {s : State} {now e : Nat} (hn : s.mgt.clock = some now) (h : e ≤ now) : s.due (some e) = true := by
  rw [State.due_some hn, decide_eq_true_iff]
  exact h

/-- What QUIESCE does before the pack is asked to close (R94, R203). -/
def State.quiesced (s : State) : State := (s.withMgt { s.mgt with run := .quiescing }).withSel { s.sel with sweepAt := none }

/-- QUIESCE in RUN, in either form (R203). -/
theorem exec_quiesce {s : State} (form : ModeForm) (params : List Byte) (hrun : s.mgt.run = .run) (hr : s.mgt.restarting = false) :
    exec (.quiesce form params) s = .next (((s.begin.quiesced.closeAccepting .quiesce).answer .done []).settle) := by
  have hself : s.mgt.run ≠ .selftest := by simp [hrun]
  have htake : s.begin.takeQuiesce = ((s.begin.quiesced.closeAccepting .quiesce).answer .done []).settle :=
    State.command_acts (s := s.begin) (allowed := fun r => r = .run) hself hr (by simp [hrun]) _
  rw [← htake]
  cases form with
  | short => rfl
  | runMode =>
    refine congrArg Host.Outcome.next ?_
    have hbusy : s.begin.isBusy = false := by simp [State.isBusy, hself, hr]
    show s.begin.takeRunMode (2 :: params) = s.begin.takeQuiesce
    simp [State.takeRunMode, hbusy, fieldAt_cons_zero]

section
variable {s : State} {id : SlotId}

theorem State.answer_wake (s : State) (st : Status) (data : List Byte) : (s.answer st data).wake = s.wake := by
  obtain ⟨counters, h, -⟩ := s.answer_eq st data
  rw [h]
  rfl

/-- An answer that no wake-up goes with and that no QUIET follows is all of its step, the holder being FULL. -/
theorem State.settle_answered (hl : s.holderFull) (hw : s.wake = false)
    (hq : s.mgt.run = .quiescing → (∃ id, (s.slot id).state ≠ .free) ∨ s.aru.releases ≠ []) (data : List Byte) :
    (s.answer .done data).settle = s.answer .done data := by
  obtain ⟨hlif, -, hpkb, hmgt⟩ := s.answer_frame .done data
  refine State.settle_unwoken (State.holderFull_congr hl hlif) ((s.answer_wake _ _).trans hw) ?_
  by_cases hrun : s.mgt.run = .quiescing
  · rcases hq hrun with ⟨id, hid⟩ | hrel
    · exact State.quietNow_of_slot (id := id) (by rwa [State.slot_of_pkb hpkb])
    · obtain ⟨counters, h, -⟩ := s.answer_eq .done data
      exact State.quietNow_releases (by rw [h]; exact hrel)
  · exact State.quietNow_unfinished fun h => absurd (by rwa [hmgt] at h) hrun

theorem State.closing_inUse (cause : CloseCause) : ((s.closing id cause).slot id).state ≠ .free := by
  rw [State.closing_slot]
  exact nofun

/-- The entry to CLOSING brings no wake-up, so it is all of its step, the holder being FULL. -/
theorem State.settle_closing (hl : s.holderFull) (hw : s.wake = false) (cause : CloseCause) :
    (s.closing id cause).settle = s.closing id cause :=
  State.settle_unwoken (State.holderFull_congr hl (State.closing_lif ..)) ((State.closing_wake ..).trans hw)
    (State.quietNow_of_slot (State.closing_inUse _))

theorem State.settle_closing_answer (hl : s.holderFull) (hw : s.wake = false) (cause : CloseCause) :
    ((s.closing id cause).answer .done []).settle = (s.closing id cause).answer .done [] :=
  State.settle_answered (State.holderFull_congr hl (State.closing_lif ..)) ((State.closing_wake ..).trans hw)
    (fun _ => .inl ⟨id, State.closing_inUse _⟩) []

/-- The age deadline in force is the OPEN accepting pack's (R109). -/
theorem State.ageDeadlineNow_open (hacc : s.accepting = some id) (ho : (s.slot id).state = .opened) :
    s.ageDeadlineNow = (s.slot id).ageDeadline := by
  simp only [State.ageDeadlineNow, hacc, if_pos ho]

end

/-- Settles O31: each trigger is the one entry to CLOSING, which the close test leaves there. -/
theorem packCloses : Obligations.PackCloses := by
  intro now e id form params s hacc ho hready hfull hclock hdeadline hrestart x item closed
  have hage : s.begin.ageDeadlineNow = some e := (State.ageDeadlineNow_open (s := s.begin) hacc ho).trans hdeadline
  refine ⟨fun hrun hdue => ?_, fun hearly => ?_, fun hrun => ?_, fun hrun => ?_⟩
  · have htimer : s.begin.ageTimer = (s.begin.closeAccepting .age).settle := by
      rw [State.ageTimer, hage, if_pos (State.due_reached (s := s.begin) hclock hdue)]
    refine congrArg Host.Outcome.next ?_
    rw [htimer, State.closeAccepting_stays (s := s.begin) hacc ho hready, State.settle_closing (s := s.begin) hfull rfl,
      State.closing_sending (s := s.begin) hrun]
    rfl
  · refine congrArg Host.Outcome.next ?_
    rw [State.ageTimer, hage, State.due_early (s := s.begin) hclock hearly]
    rfl
  · rw [exec_closeNow form params hrun hrestart, State.closeAccepting_stays (s := s.begin) hacc ho hready,
      State.settle_closing_answer (s := s.begin) hfull rfl, State.closing_sending (s := s.begin) (.inl hrun)]
    rfl
  · rw [exec_quiesce form params hrun hrestart, State.closeAccepting_stays (s := s.begin.quiesced) hacc ho hready,
      State.settle_closing_answer (s := s.begin.quiesced) hfull rfl, State.closing_sending (s := s.begin.quiesced) (.inr rfl)]
    rfl

end Sys2Proof.Machine

/-! ### CLOSE_NOW and QUIESCE with no OPEN pack, and the entry to QUIET -/

namespace Sys2Proof.Machine

section
variable {s : State}

/-- With a FULL holder the entry to QUIET follows a command's own event at once (R66, R202). -/
theorem State.settle_quiet (hl : s.holderFull) (hrun : s.mgt.run = .quiescing) (hfree : ∀ id, (s.slot id).state = .free)
    (hr : s.aru.releases = []) : s.settle =
      ((s.withWake false).withMgt { s.mgt with run := .quiet }).withPvw { s.pvw with items := [], timer := none } := by
  rw [State.settle_held hl (State.roundRuns_stopped (by simp [hrun]))]
  exact State.testQuiet_due (s := s.withWake false) hrun hfree hr

/-- An answer does not depend on the run state and the beacons, and leaves them. -/
theorem State.answer_quieted (s : State) (st : Status) (data : List Byte) :
    ((s.answer st data).withMgt { (s.answer st data).mgt with run := .quiet }).withPvw { s.pvw with items := [], timer := none } =
      ((s.withMgt { s.mgt with run := .quiet }).withPvw { s.pvw with items := [], timer := none }).answer st data := by
  have hunread : ((s.withMgt { s.mgt with run := .quiet }).withPvw { s.pvw with items := [], timer := none }).responseUnread =
      s.responseUnread := rfl
  unfold State.answer
  rw [hunread]
  cases s.responseUnread <;> rfl

/-- With the holder EMPTY and one release left, the arbiter takes it up, and QUIET follows where the slots are FREE (R36, R66, R202). -/
theorem State.settle_lastRelease {r : Release} (hfree : s.lif.holder = none) (hrun : s.mgt.run = .quiescing) (hwake : s.wake = false)
    (hslots : ∀ id, (s.slot id).state = .free) (hr : s.aru.releases = [r]) : s.settle =
      ((s.takeRelease r []).withMgt { s.mgt with run := .quiet }).withPvw { s.pvw with items := [], timer := none } := by
  have htaken : s.arbitrate = s.takeRelease r [] :=
    (State.arbitrate_empty hfree (by simp [hrun])).trans (State.arbiterChoice_release hr)
  have hsame : s.settle = (s.takeRelease r []).settle := by
    unfold State.settle
    rw [htaken, State.arbitrate_full (s := s.takeRelease r []) rfl]
  rw [hsame, State.settle_quiet (s := s.takeRelease r []) rfl hrun hslots rfl]
  exact congrArg (fun u : State => (u.withMgt { s.mgt with run := .quiet }).withPvw { s.pvw with items := [], timer := none })
    (State.withWake_self (s := s.takeRelease r []) hwake)

/-- The fields of a STORED as the mover writes them (R162). -/
theorem readStored_le (epoch seq segment : Word32) :
    readStored (le 4 epoch.toNat ++ le 4 seq.toNat ++ le 4 segment.toNat) = some ⟨epoch, seq, segment⟩ := by
  unfold readStored
  rw [if_pos (by simp)]
  refine congrArg some ?_
  congr 1 <;>
  · refine ticketAt_of_fieldAt ?_
    simp (disch := simp) only [fieldAt_left, fieldAt_skip]
    simp [fieldAt_alone]
    omega

/-- STORED(END) for the current pack, its PACK-END the one message outstanding, ends the pack (R116, R169). -/
theorem State.storedMatch_end {c : CurrentPack} (hc : s.drn.current = some c) (hw : s.drn.window = [.packEnd]) :
    s.storedMatch ⟨c.epoch, c.seq, storedEnd⟩ = some (c, .packEnd, []) := by
  simp [State.storedMatch, hc, hw, WindowMsg.named]

/-- The end of an ENDING pack: its record is queued and its slot FREE (R117). -/
theorem State.endPack_ending {id : SlotId} (h : (s.slot id).state = .ending) : s.endPack id =
    ((((s.setSlot id {}).withMgt { s.mgt with records := s.mgt.records ++ [s.endedRecord id] }).withWake true).bump .packsEnded) := by
  rw [State.endPack, if_pos h]
  cases id <;> rfl

/-- With the other slot FREE, no release waiting and the holder FULL, the end of a pack in QUIESCING brings QUIET (R117, R202). -/
theorem State.settle_endPack {id : SlotId} (hl : s.holderFull) (hrun : s.mgt.run = .quiescing) (h : (s.slot id).state = .ending)
    (hother : (s.slot id.other).state = .free) (hr : s.aru.releases = []) : (s.endPack id).settle =
      State.withPvw (State.withMgt ((s.endPack id).withWake false)
        { s.mgt with run := .quiet, records := s.mgt.records ++ [s.endedRecord id] }) { s.pvw with items := [], timer := none } := by
  rw [State.endPack_ending h]
  have hslots : ∀ j, ((s.setSlot id {}).slot j).state = .free := fun j => by
    rw [State.setSlot_slot_eq]
    split
    · rfl
    · next hne =>
      have hj : j = id.other := by revert hne; cases j <;> cases id <;> decide
      rw [hj, hother]
  refine (State.settle_quiet ?_ (by simpa using hrun) ?_ ?_).trans ?_
  · exact State.holderFull_congr hl (by simp)
  · exact hslots
  · simpa using hr
  · simp

end

/-- The state in which a STORED(END) reaches the pack builder (R169). -/
def State.endStored (s : State) : State :=
  (s.withDrn { s.drn with window := [], deadline := none, current := none }).bump .storedAccepted

theorem exec_stored_end {s : State} {c : CurrentPack} (hc : s.drn.current = some c) (hw : s.drn.window = [.packEnd]) :
    exec (.stored (le 4 c.epoch.toNat ++ le 4 c.seq.toNat ++ le 4 0xFFFFFFFF)) s = .next (s.begin.endStored.endPack c.slot).settle := by
  refine congrArg Host.Outcome.next ?_
  have hread : readStored (le 4 c.epoch.toNat ++ le 4 c.seq.toNat ++ le 4 0xFFFFFFFF) = some ⟨c.epoch, c.seq, storedEnd⟩ :=
    readStored_le c.epoch c.seq storedEnd
  simp only [State.receiveStored, hread, State.storedMatch_end (s := s.begin) hc hw]
  rfl

/-- Settles O33: with no OPEN pack the close trigger finds nothing, and the QUIET test is the last thing in each of the steps. -/
theorem quietEntered : Obligations.QuietEntered := by
  refine ⟨fun form params s hrun hrestart hfull hopen => ?_, fun h r s hrun hfree hr hh => ?_,
    fun c s hrun hc hw hfull hr hending hother => ?_⟩
  · rw [exec_closeNow form params hrun hrestart, exec_quiesce form params hrun hrestart,
      State.closeAccepting_unopened (s := s.begin) hopen, State.closeAccepting_unopened (s := s.begin.quiesced) hopen]
    refine ⟨?_, fun hbusy => ?_, fun hfree hr => ?_⟩
    · rw [State.settle_answered (s := s.begin) hfull rfl fun k => absurd (hrun.symm.trans k) (by decide)]
    · rw [State.settle_answered (s := s.begin.quiesced) hfull rfl fun _ => hbusy]
      rfl
    · obtain ⟨counters, hanswer, -⟩ := s.begin.quiesced.answer_eq .done []
      have hquiet : (s.begin.quiesced.answer .done []).settle = _ :=
        State.settle_quiet (by rw [hanswer]; exact hfull) (by rw [hanswer]; rfl) (by rw [hanswer]; exact hfree) (by rw [hanswer]; exact hr)
      rw [hquiet, State.withWake_self ((State.answer_wake _ _ _).trans rfl)]
      have hpvw : (s.begin.quiesced.answer .done []).pvw = s.begin.quiesced.pvw := by rw [hanswer]; rfl
      rw [hpvw, State.answer_quieted]
      rfl
  · have hexec := exec_medium (took := true) hh nofun
    rw [State.settle_lastRelease (s := s.frameGone h true) rfl hrun rfl hfree hr] at hexec
    exact hexec
  · have hsettle := State.settle_endPack (s := s.begin.endStored) (id := c.slot) hfull hrun hending hother hr
    refine ⟨_, s.begin.endStored.endedRecord c.slot, (exec_stored_end hc hw).trans (congrArg Host.Outcome.next hsettle), rfl, ?_, rfl⟩
    rw [State.withPvw_slot, State.withMgt_slot, State.withWake_slot, State.endPack_ending (s := s.begin.endStored) hending]
    simp

end Sys2Proof.Machine

/-! ## A BEACON heard (R58, R59, R67 to R69) -/

namespace Sys2Proof.Machine

/-! ### Counters raised one after the other -/

/-- Counters raised once each: they rise by one, and no other. -/
theorem State.count_foldl_bump {ks : List Ctr} (hn : ks.Nodup) (s : State) (k : Ctr) :
    (ks.foldl State.bump s).count k = if k ∈ ks then saturatingNext (s.count k) else s.count k := by
  induction ks generalizing s with
  | nil => simp
  | cons c ks ih =>
    obtain ⟨hc, hn⟩ := List.nodup_cons.1 hn
    rw [List.foldl_cons, ih hn, State.count_bump_eq]
    by_cases e : k = c
    · subst e
      simp [hc]
    · simp [e]

/-- A counter raised, from the same counters. -/
theorem State.bump_counters_congr {s t : State} (h : t.counters = s.counters) (k : Ctr) : (t.bump k).counters = (s.bump k).counters := by
  unfold State.bump State.count
  rw [State.withCounters_counters, State.withCounters_counters, h]

/-- The clock reading and a slot written are read from the block alone. -/
theorem State.now_congr {s t : State} (h : t.mgt = s.mgt) : t.now = s.now := by
  unfold State.now
  rw [h]

theorem State.setSlot_pkb_congr {s t : State} (h : t.pkb = s.pkb) (id : SlotId) (x : Slot) : (t.setSlot id x).pkb = (s.setSlot id x).pkb := by
  cases id <;> simp [State.setSlot, h]

/-! ### The beacon table -/

theorem mem_writePeer {x y : PeerEntry} {table : List PeerEntry} :
    y ∈ writePeer x table ↔ y = x ∨ (y ∈ table ∧ y.station ≠ x.station) := by
  unfold writePeer
  simp only [List.mem_append, List.mem_filter, List.mem_singleton, decide_eq_true_eq]
  constructor
  · rintro ((⟨h, hlt⟩ | h) | ⟨h, hlt⟩)
    · exact .inr ⟨h, ne_of_lt hlt⟩
    · exact .inl h
    · exact .inr ⟨h, ne_of_gt hlt⟩
  · rintro (h | ⟨h, hne⟩)
    · exact .inl (.inr h)
    · rcases lt_or_gt_of_ne hne with hlt | hgt
      · exact .inl (.inl ⟨h, hlt⟩)
      · exact .inr ⟨h, hgt⟩

/-- The entry written is its station's entry (R59). -/
theorem writePeer_find_own (x : PeerEntry) (table : List PeerEntry) :
    (writePeer x table).find? (fun y => y.station = x.station) = some x := by
  have hbelow : (table.filter fun y => y.station < x.station).find? (fun y => y.station = x.station) = none := by
    rw [List.find?_eq_none]
    intro y hy
    have hlt : y.station < x.station := by simpa using (List.mem_filter.1 hy).2
    simpa using ne_of_lt hlt
  unfold writePeer
  rw [List.append_assoc, List.find?_append, hbelow]
  simp

/-- An entry's station is found among the entries with P if P holds of its entries, and not if it fails of them. -/
theorem find_station_filter {p : PeerEntry → Bool} {st : Station} (b : Bool) (hp : ∀ y : PeerEntry, y.station = st → p y = b)
    (table : List PeerEntry) :
    (table.filter p).find? (fun y => y.station = st) = if b then table.find? (fun y => y.station = st) else none := by
  have hcond : (fun y : PeerEntry => p y && decide (y.station = st)) = fun y => b && decide (y.station = st) := by
    funext y
    by_cases e : y.station = st <;> simp [e, hp]
  rw [List.find?_filter]
  simp only [← Bool.and_eq_decide, hcond]
  cases b <;> simp

/-- The other stations' entries are as they were (R59). -/
theorem writePeer_find_other {x : PeerEntry} {st : Station} (h : st ≠ x.station) (table : List PeerEntry) :
    (writePeer x table).find? (fun y => y.station = st) = table.find? fun y => y.station = st := by
  have hbelow := find_station_filter (p := fun y => y.station < x.station) (decide (st < x.station)) (fun y e => by rw [e]) table
  have habove := find_station_filter (p := fun y => x.station < y.station) (decide (x.station < st)) (fun y e => by rw [e]) table
  unfold writePeer
  rw [List.find?_append, List.find?_append, hbelow, habove]
  rcases lt_or_gt_of_ne h with hlt | hgt
  · simp [hlt, not_lt_of_gt hlt, Ne.symm h]
  · simp [hgt, not_lt_of_gt hgt, Ne.symm h]

/-! ### The yield check (R67 to R69) -/

section
variable {s : State} {id : SlotId}

theorem State.callsForYield_iff (s : State) (key : Word64) (fill : Nat) (y : PeerEntry) : s.callsForYield key fill y = true ↔
    y.key = key ∧ (fill < y.fill ∨ (fill = y.fill ∧ y.station.val < s.lif.station.val)) := by
  simp [State.callsForYield]

/-- No entry that calls for a yield, no yield. -/
theorem State.yieldCheck_silent {ys : List PeerEntry} (h : (s.slot id).state = .opened → ∀ key, (s.slot id).primaryKey = some key →
    ∀ y ∈ ys, ¬ s.callsForYield key (fillOf (s.slot id).e) y = true) : s.yieldCheck id ys = s := by
  unfold State.yieldCheck
  split
  · next key ho hk =>
    rw [if_neg]
    rw [List.any_eq_true]
    rintro ⟨y, hy, hcalls⟩
    exact h ho key hk y hy hcalls
  · rfl

/-- One entry that calls for it makes an OPEN pack yield, once (R69). -/
theorem State.yieldCheck_yields {key : Word64} {ys : List PeerEntry} {y : PeerEntry} (ho : (s.slot id).state = .opened)
    (hk : (s.slot id).primaryKey = some key) (hy : y ∈ ys) (hcalls : s.callsForYield key (fillOf (s.slot id).e) y = true) :
    s.yieldCheck id ys = s.yieldNow := by
  simp only [State.yieldCheck, ho, hk]
  exact if_pos (List.any_eq_true.2 ⟨y, hy, hcalls⟩)

/-- A yield of an OPEN pack that cannot reach CLOSED at once is its entry to CLOSING (R69, R110). -/
theorem State.yieldNow_stays (hacc : s.accepting = some id) (ho : (s.slot id).state = .opened) (hready : s.closeReady id = false) :
    s.yieldNow = (s.bump .yields).closing id .yield := State.closeAccepting_stays (s := s.bump .yields) hacc ho hready .yield

/-! ### A BEACON -/

/-- The sender's entry written and the beacon counted (R59). -/
def State.peerWritten (s : State) (y : PeerEntry) : State :=
  (s.withPvw { s.pvw with table := writePeer y s.pvw.table }).bump .beaconsHeard

/-- A BEACON writes its sender's entry and may wake the selector; an OPEN one brings the yield check of the accepting pack (R59, R67). -/
theorem State.beaconArrives_eq {y : PeerEntry} (hy : y.lastHeard = s.mgt.clock) : ∃ w,
    s.beaconArrives y.station y.phase y.key y.fill =
      if y.phase = .opened then s.accepting.elim ((s.peerWritten y).withWake w) fun id => ((s.peerWritten y).withWake w).yieldCheck id [y]
      else (s.peerWritten y).withWake w := by
  have hwake : ∀ p : Prop, [Decidable p] → ∃ w, (if p then s.peerWritten y else (s.peerWritten y).wakeUp) = (s.peerWritten y).withWake w :=
    fun p _ => by
      split
      · exact ⟨s.wake, rfl⟩
      · exact ⟨true, rfl⟩
  obtain ⟨w, hw⟩ := hwake ((s.peerWritten y).heldKey y = (s.peer? y.station).bind s.heldKey)
  refine ⟨w, ?_⟩
  have hacc : ((s.peerWritten y).withWake w).accepting = s.accepting := State.accepting_congr rfl
  unfold State.beaconArrives
  dsimp only
  rw [← hy, ← State.peerWritten, hw, hacc]
  cases s.accepting <;> rfl

/-- The state at the yield check of an accepted BEACON, before the check (R29, R59). -/
def State.beaconHeard (s : State) (y : PeerEntry) (w : Bool) : State := ((s.begin.bump .framesAccepted).peerWritten y).withWake w

theorem State.beaconHeard_frame (s : State) (y : PeerEntry) (w : Bool) : (s.beaconHeard y w).pkb = s.pkb ∧ (s.beaconHeard y w).lif = s.lif ∧
    (s.beaconHeard y w).oft = s.oft ∧ (s.beaconHeard y w).sel = s.sel ∧ (s.beaconHeard y w).fen = s.fen ∧ (s.beaconHeard y w).spl = s.spl ∧
    (s.beaconHeard y w).drn = s.drn ∧ (s.beaconHeard y w).aru = s.aru ∧ (s.beaconHeard y w).mgt = s.mgt ∧ (s.beaconHeard y w).mem = s.mem :=
  ⟨rfl, rfl, rfl, rfl, rfl, rfl, rfl, rfl, rfl, rfl⟩

theorem State.beaconHeard_pvw (s : State) (y : PeerEntry) (w : Bool) :
    (s.beaconHeard y w).pvw = { s.pvw with table := writePeer y s.pvw.table } := rfl

theorem State.beaconHeard_counters (s : State) (y : PeerEntry) (w : Bool) :
    (s.beaconHeard y w).counters = ((s.bump .framesAccepted).bump .beaconsHeard).counters := by
  have hbegin : (s.begin.bump .framesAccepted).counters = (s.bump .framesAccepted).counters := State.bump_counters_congr s.begin_counters _
  unfold State.beaconHeard State.peerWritten
  rw [State.withWake_counters]
  exact State.bump_counters_congr (by rw [State.withPvw_counters, hbegin]) _

/-- An accepted BEACON: its sender's entry written, and for an OPEN one the yield check of the accepting pack (R59, R67). -/
theorem exec_beacon {f : Frame} {sender : Station} {y : PeerEntry} (hacc : s.accepts 0x44#8 f sender)
    (hread : readBeacon f sender = some (y.phase, y.key, y.fill)) (hstation : y.station = sender) (hheard : y.lastHeard = s.mgt.clock) :
    ∃ w, exec (.beacon f) s = .next (State.settle
      (if y.phase = .opened then s.accepting.elim (s.beaconHeard y w) fun id => (s.beaconHeard y w).yieldCheck id [y]
      else s.beaconHeard y w)) := by
  obtain ⟨w, hw⟩ := State.beaconArrives_eq (s := s.begin.bump .framesAccepted) hheard
  have haccepting : (s.begin.bump .framesAccepted).accepting = s.accepting := rfl
  rw [hstation, haccepting] at hw
  refine ⟨w, congrArg Host.Outcome.next ?_⟩
  unfold State.receiveBeacon
  rw [State.receive_accepted _ _ (State.accepts_begin hacc) hread]
  exact congrArg State.settle hw

end

/-- Settles O21: the yield check finds nothing to yield to, and at rest the wake-up of a changed held key is spent in the step. -/
theorem beaconWrites : Obligations.BeaconWrites := by
  intro f sender phase key fill s hacc hread hrest hkeeps
  obtain ⟨w, hexec⟩ := exec_beacon (y := ⟨sender, phase, key, fill, s.mgt.clock⟩) hacc hread rfl rfl
  refine ⟨writePeer ⟨sender, phase, key, fill, s.mgt.clock⟩ s.pvw.table, ?_, fun z => mem_writePeer⟩
  obtain ⟨hpkb, hlif, -, hsel, -, -, -, haru, hmgt, -⟩ := s.beaconHeard_frame ⟨sender, phase, key, fill, s.mgt.clock⟩ w
  have hsilent : ∀ id, s.accepting = some id → phase = .opened →
      (s.beaconHeard ⟨sender, phase, key, fill, s.mgt.clock⟩ w).yieldCheck id [⟨sender, phase, key, fill, s.mgt.clock⟩] =
        s.beaconHeard ⟨sender, phase, key, fill, s.mgt.clock⟩ w := fun id hslot hphase => by
    refine State.yieldCheck_silent fun ho key' hk z hz hcalls => ?_
    rw [State.slot_of_pkb hpkb] at ho hk hcalls
    rw [List.mem_singleton.1 hz, State.callsForYield_iff, hlif] at hcalls
    obtain ⟨rfl, hbetter⟩ := hcalls
    exact hkeeps hphase id hslot ho hk hbetter
  have hheard : (if phase = .opened then s.accepting.elim (s.beaconHeard ⟨sender, phase, key, fill, s.mgt.clock⟩ w) fun id =>
      (s.beaconHeard ⟨sender, phase, key, fill, s.mgt.clock⟩ w).yieldCheck id [⟨sender, phase, key, fill, s.mgt.clock⟩]
      else s.beaconHeard ⟨sender, phase, key, fill, s.mgt.clock⟩ w) = s.beaconHeard ⟨sender, phase, key, fill, s.mgt.clock⟩ w := by
    split
    · next hphase =>
      cases hslot : s.accepting with
      | none => rfl
      | some id => exact hsilent id hslot hphase
    · rfl
  rw [hexec]
  dsimp only
  rw [hheard, State.settled hrest hpkb hlif hmgt hsel haru]
  rfl

/-- The step of a yield, the holder being FULL: the entry to CLOSING, and the wake-ups spent. -/
theorem State.settle_yielded {u : State} {id : SlotId} (hl : u.holderFull) (hacc : u.accepting = some id) (ho : (u.slot id).state = .opened) :
    ((u.bump .yields).closing id .yield).settle = ((u.bump .yields).closing id .yield).withWake false := by
  have hclosing := State.closing_accepting (s := u.bump .yields) ho .yield
  have hstate := congrArg Slot.state ((u.bump .yields).closing_slot id .yield)
  have hlif := (u.bump .yields).closing_lif id .yield
  have hused := State.closing_inUse (s := u.bump .yields) (id := id) .yield
  generalize (u.bump .yields).closing id .yield = v at *
  rw [State.settle_held (State.holderFull_congr hl hlif) (State.roundRuns_closing (hclosing.trans hacc) hstate)]
  exact State.testQuiet_early (State.quietNow_of_slot (s := v.withWake false) hused)

/-- Settles O22: the yield is the entry to CLOSING, and a wake-up of a changed held key finds no pack that takes a candidate. -/
theorem beaconYields : Obligations.BeaconYields := by
  intro f sender key fill id s haccepts hread hfull hacc ho hk hrun hready x hbetter
  obtain ⟨w, hexec⟩ := exec_beacon (y := ⟨sender, .opened, key, fill, s.mgt.clock⟩) haccepts hread rfl rfl
  rw [if_pos rfl, hacc, Option.elim_some] at hexec
  obtain ⟨hpkb, hlif, hoft, hsel, hfen, hspl, hdrn, haru, hmgt, hmem⟩ := s.beaconHeard_frame ⟨sender, .opened, key, fill, s.mgt.clock⟩ w
  have hpvw := s.beaconHeard_pvw ⟨sender, .opened, key, fill, s.mgt.clock⟩ w
  have hcounters := s.beaconHeard_counters ⟨sender, .opened, key, fill, s.mgt.clock⟩ w
  generalize s.beaconHeard ⟨sender, .opened, key, fill, s.mgt.clock⟩ w = u at *
  have hslot : u.slot id = x := State.slot_of_pkb hpkb id
  have huacc : u.accepting = some id := (State.accepting_congr hpkb).trans hacc
  have huo : (u.slot id).state = .opened := by rw [hslot]; exact ho
  have huk : (u.slot id).primaryKey = some key := by rw [hslot]; exact hk
  have huready : u.closeReady id = false := (State.closeReady_congr hsel (by rw [hslot])).trans hready
  have hcalls : u.callsForYield key (fillOf (u.slot id).e) ⟨sender, .opened, key, fill, s.mgt.clock⟩ = true := by
    rw [State.callsForYield_iff, hslot, hlif]
    exact ⟨rfl, hbetter⟩
  rw [State.yieldCheck_yields huo huk (List.mem_singleton_self _) hcalls, State.yieldNow_stays huacc huo huready,
    State.settle_yielded (State.holderFull_congr hfull hlif) huacc huo] at hexec
  have hvpvw := State.closing_pvw_sending (s := u.bump .yields) (id := id) (by rw [State.bump_mgt, hmgt]; exact hrun) .yield
  rw [State.bump_slot, huk, hslot, State.bump_mgt, hmgt, State.bump_pvw, hpvw, State.now_congr (s := s) (t := u.bump .yields) hmgt] at hvpvw
  obtain ⟨vlif, voft, vsel, vfen, vspl, vdrn, varu, vmgt, vmem⟩ := (u.bump .yields).closing_frame id .yield
  have hvpkb : ((u.bump .yields).closing id .yield).pkb = (s.setSlot id { x with state := .closing, ageDeadline := none }).pkb := by
    rw [State.closing_pkb, State.bump_slot, hslot]
    exact State.setSlot_pkb_congr (s := s) (t := u.bump .yields) hpkb id _
  have hvcounters : ((u.bump .yields).closing id .yield).counters =
      ([.framesAccepted, .beaconsHeard, .yields, .closesByYield].foldl State.bump s).counters :=
    ((u.bump .yields).closing_counters id .yield).trans
      (State.bump_counters_congr (State.bump_counters_congr hcounters .yields) .closesByYield)
  generalize (u.bump .yields).closing id .yield = v at *
  obtain ⟨htable, hitems, htimer, hsweep⟩ : v.pvw.table = writePeer ⟨sender, .opened, key, fill, s.mgt.clock⟩ s.pvw.table ∧
      v.pvw.items = putItem ⟨id, s.mgt.config.epoch, x.seq, .closing, key, fillOf x.e, x.members.length⟩ s.pvw.items ∧
      v.pvw.timer = s.pvw.timer.filter (· ≤ s.now) ∧ v.pvw.sweepAt = s.pvw.sweepAt := by
    rw [hvpvw]
    exact ⟨rfl, rfl, rfl, rfl⟩
  refine ⟨_, hexec, hvpkb, hitems, htimer, hsweep, ?_, fun st hst => ?_, fun k => ?_,
    vlif.trans hlif, voft.trans hoft, vsel.trans hsel, vfen.trans hfen, vspl.trans hspl, vdrn.trans hdrn, varu.trans haru, vmgt.trans hmgt,
    vmem.trans hmem⟩
  · show v.pvw.table.find? _ = _
    rw [htable]
    exact writePeer_find_own ⟨sender, .opened, key, fill, s.mgt.clock⟩ s.pvw.table
  · show v.pvw.table.find? _ = _
    rw [htable]
    exact writePeer_find_other hst s.pvw.table
  · refine (State.count_congr (s := List.foldl State.bump s _) hvcounters k).trans ((State.count_foldl_bump (by decide) s k).trans ?_)
    simp only [List.mem_cons, List.not_mem_nil, or_false]

end Sys2Proof.Machine

/-! ## The timers of the peer view and the selector (R61, R65, R74, R75) -/

namespace Sys2Proof.Machine

section
variable {s : State} {id : SlotId}

/-! ### A round on its own -/

/-- With a claim bound, a close trigger takes a slot no further than CLOSING, so it brings no wake-up (R111). -/
theorem State.closeFor_keeps (hready : s.closeReady id = false) (cause : CloseCause) :
    (s.closeFor id cause).lif = s.lif ∧ (s.closeFor id cause).mgt = s.mgt ∧ (s.closeFor id cause).wake = s.wake := by
  by_cases ho : (s.slot id).state = .opened
  · obtain ⟨hlif, -, -, -, -, -, -, hmgt, -⟩ := s.closing_frame id cause
    rw [State.closeFor_stays ho hready]
    exact ⟨hlif, hmgt, s.closing_wake id cause⟩
  · rw [State.closeFor_unopened ho]
    exact ⟨rfl, rfl, rfl⟩

theorem State.claimAdmitted_keeps (hready : s.closeReady id = false) :
    (s.claimAdmitted id).lif = s.lif ∧ (s.claimAdmitted id).mgt = s.mgt ∧ (s.claimAdmitted id).wake = s.wake := by
  unfold State.claimAdmitted State.testMargin
  split
  · exact State.closeFor_keeps (s := s.recomputePromised) hready .room
  · exact ⟨rfl, rfl, rfl⟩

theorem State.closeReady_bound {c : Claim} (hc : c ∈ s.sel.claims) (hid : c.slot = some id) : s.closeReady id = false := by
  have hbound : c ∈ s.boundClaims id := List.mem_filter.2 ⟨hc, by simpa using hid⟩
  have hne : (s.boundClaims id).isEmpty = false := List.isEmpty_eq_false_iff.2 (List.ne_nil_of_mem hbound)
  rw [State.closeReady, hne, Bool.false_and]

theorem State.formSlot_keeps (s : State) (id : SlotId) (k : Option Word64) :
    (s.formSlot id k).lif = s.lif ∧ (s.formSlot id k).mgt = s.mgt ∧ (s.formSlot id k).wake = s.wake := by
  unfold State.formSlot
  split <;> simp

theorem State.admitCandidate_keeps (s : State) (c : Candidate) :
    (s.admitCandidate c).lif = s.lif ∧ (s.admitCandidate c).mgt = s.mgt ∧ (s.admitCandidate c).wake = s.wake := by
  unfold State.admitCandidate
  dsimp only
  generalize hu : (if s.accepting.isNone = true then s.formSlot (s.accepting.getD s.formingSlot) (some (c.key.getD 0)) else s) = u
  have hformed : u.lif = s.lif ∧ u.mgt = s.mgt ∧ u.wake = s.wake := by
    subst hu
    split
    · exact s.formSlot_keeps _ _
    · exact ⟨rfl, rfl, rfl⟩
  obtain ⟨hlif, hmgt, hwake⟩ := hformed
  have hbound := State.closeReady_bound
    (s := (u.setCandidates (dropCandidate c.file.pair u.oft.candidates)).withSel { u.sel with
      claims := u.sel.claims ++ [⟨c.file, c.key.getD 0, some (s.accepting.getD s.formingSlot), .waiting⟩] })
    (List.mem_append_right _ (List.mem_singleton_self _)) rfl
  obtain ⟨hlif', hmgt', hwake'⟩ := State.claimAdmitted_keeps hbound
  exact ⟨hlif'.trans hlif, hmgt'.trans hmgt, hwake'.trans hwake⟩

/-- A round wakes nothing, and leaves the link interface and the management unit as they were (R75 to R79). -/
theorem State.selectionRound_keeps (s : State) :
    s.selectionRound.lif = s.lif ∧ s.selectionRound.mgt = s.mgt ∧ s.selectionRound.wake = s.wake := by
  unfold State.selectionRound
  split
  · split
    · split
      · exact s.admitCandidate_keeps _
      · exact ⟨rfl, rfl, rfl⟩
    · exact ⟨rfl, rfl, rfl⟩
  · exact ⟨rfl, rfl, rfl⟩

/-- Woken in RUN with a FULL holder, the step settles in one round (R37, R75). -/
theorem State.settle_round (hl : s.holderFull) (hw : s.wake = true) (hrun : s.mgt.run = .run) :
    s.settle = (s.withWake false).selectionRound := by
  have hround : s.roundIfWoken = (s.withWake false).selectionRound := if_pos hw
  obtain ⟨hlif, hmgt, hwake⟩ := (s.withWake false).selectionRound_keeps
  unfold State.settle
  rw [State.arbitrate_full hl, hround]
  generalize (s.withWake false).selectionRound = v at *
  have hspent : v.roundIfWoken = v := if_neg (by rw [hwake]; exact nofun)
  have hrun' : v.mgt.run = .run := by rw [hmgt]; exact hrun
  rw [State.arbitrate_full (State.holderFull_congr hl hlif), hspent]
  exact State.testQuiet_early (State.quietNow_unfinished fun h => absurd (hrun'.symm.trans h) (by decide))

/-! ### The peer sweep -/

theorem State.sweepPeers_eq (s : State) : ∃ w, s.sweepPeers =
    ((s.withPvw { s.pvw with table := s.pvw.table.filter s.isLive }).bumpBy .peerEntriesExpired
      (s.pvw.table.countP fun y => !s.isLive y)).withWake w := by
  have hlen : (s.pvw.table.filter fun y => !s.isLive y).length = s.pvw.table.countP fun y => !s.isLive y :=
    List.countP_eq_length_filter.symm
  unfold State.sweepPeers
  dsimp only
  rw [hlen]
  generalize State.bumpBy _ _ _ = t
  split
  · exact ⟨true, rfl⟩
  · exact ⟨t.wake, rfl⟩

/-- An entry is live while it was heard less than three beacon intervals ago (R60). -/
theorem State.isLive_eq {now : Nat} (hn : s.mgt.clock = some now) : s.isLive = fun y => match y.lastHeard with
    | some h => decide (now - h < 3 * s.mgt.config.beaconSecs * 1000)
    | none => false := by
  funext y
  unfold State.isLive
  rw [hn]
  cases y.lastHeard <;> rfl

/-- At rest a wake-up is spent, and the step leaves what its command has changed. -/
theorem State.settle_spent {t : State} {w : Bool} (hrest : s.atRest) (hpkb : t.pkb = s.pkb) (hlif : t.lif = s.lif) (hmgt : t.mgt = s.mgt)
    (hsel : t.sel = s.sel) (haru : t.aru = s.aru) (hw : t.wake = false) : (t.withWake w).settle = t :=
  (State.settled (t := t.withWake w) hrest hpkb hlif hmgt hsel haru).trans (State.withWake_self (s := t) hw)

/-- A due sweep is all of its step, at rest (R61). -/
theorem State.peerSweepTimer_due {now e : Nat} (hn : s.mgt.clock = some now) (hdue : s.pvw.sweepAt = some e) (he : e ≤ now)
    (hrest : s.atRest) (hw : s.wake = false) : s.peerSweepTimer =
      State.bumpBy (s.withPvw { s.pvw with table := s.pvw.table.filter s.isLive, sweepAt := some ((now / 1000 + 1) * 1000) })
        .peerEntriesExpired (s.pvw.table.countP fun y => !s.isLive y) := by
  have hnow : s.now = now := by rw [State.now, hn]; rfl
  rw [State.peerSweepTimer, if_pos (by rw [hdue]; exact State.due_reached hn he), hnow]
  obtain ⟨w, hsweep⟩ := (s.withPvw { s.pvw with sweepAt := some ((now / 1000 + 1) * 1000) }).sweepPeers_eq
  refine (congrArg State.settle hsweep).trans ?_
  obtain ⟨counters, hcounters⟩ := State.bumpBy_eq
    (s.withPvw { s.pvw with table := s.pvw.table.filter s.isLive, sweepAt := some ((now / 1000 + 1) * 1000) })
    .peerEntriesExpired (s.pvw.table.countP fun y => !s.isLive y)
  refine Eq.trans (congrArg (fun t => (State.withWake t w).settle) hcounters) (Eq.trans ?_ hcounters.symm)
  exact State.settle_spent hrest rfl rfl rfl rfl rfl hw

/-! ### The beacon timer -/

/-- The expiry with an OPEN or CLOSING accepting pack makes its item, and the timer stays stopped (R63, R65). -/
theorem State.beaconExpires_due {now e : Nat} (hn : s.mgt.clock = some now) (hdue : s.pvw.timer = some e) (he : e ≤ now)
    (hl : s.holderFull) (hw : s.wake = false) (hs : s.mgt.run = .run ∨ s.mgt.run = .quiescing) (hacc : s.accepting = some id)
    (hphase : (s.slot id).state = .opened ∨ (s.slot id).state = .closing) :
    s.beaconExpires = s.withPvw { s.pvw with
      timer := none
      items := putItem (s.beaconItem id (if (s.slot id).state = .opened then .opened else .closing)) s.pvw.items } := by
  have hused : (s.slot id).state ≠ .free := by rcases hphase with h | h <;> rw [h] <;> decide
  have htrigger := State.triggerAccepting_beaconing (s := s.stopBeaconTimer) hacc hphase hs
  rw [State.beaconExpires, if_pos (by rw [hdue]; exact State.due_reached hn he), htrigger]
  exact State.settle_unwoken (State.holderFull_congr hl rfl) hw (State.quietNow_of_slot (id := id) hused)

end

/-- Settles O23: a due timer's step is its own event, and for the sweep timer the one round that the wake-up brings. -/
theorem clockTimers : Obligations.ClockTimers := by
  intro now e s hclock hfull fresh nextSecond
  have hnow : s.begin.now = now := congrArg (Option.getD · 0) hclock
  have early {timer : Option Nat} (ht : timer = some e) (he : now < e) : s.begin.due timer = false := by
    rw [ht, State.due_early (s := s.begin) hclock he]
  have reached {timer : Option Nat} (ht : timer = some e) (he : e ≤ now) : s.begin.due timer = true := by
    rw [ht, State.due_reached (s := s.begin) hclock he]
  refine ⟨fun hsweep hheld hquiet => ⟨fun hdue => ?_, fun hearly => ?_⟩, fun hsweep => ⟨fun hdue hrun => ?_, fun hidle => ?_⟩,
    fun id htimer hrun hacc hphase => ⟨fun hdue => ?_, fun hearly => ?_⟩⟩ <;> refine congrArg Host.Outcome.next ?_
  · have hlive : s.begin.isLive = fresh := State.isLive_eq (s := s.begin) hclock
    rw [State.peerSweepTimer_due (s := s.begin) hclock hsweep hdue ⟨hfull, hheld, hquiet⟩ rfl, hlive]
    rfl
  · exact if_neg (Bool.eq_false_iff.1 (early hsweep hearly))
  · have hboth : (s.begin.due s.begin.sel.sweepAt && decide (s.begin.mgt.run = .run)) = true :=
      Bool.and_eq_true_iff.2 ⟨reached hsweep hdue, decide_eq_true hrun⟩
    rw [State.selectorTimer, if_pos hboth, hnow]
    exact State.settle_round (State.holderFull_congr hfull rfl) rfl hrun
  · refine if_neg fun hboth => ?_
    obtain ⟨hdue, hrun⟩ := Bool.and_eq_true_iff.1 hboth
    rcases hidle with hearly | hstopped
    · exact Bool.eq_false_iff.1 (early hsweep hearly) hdue
    · exact hstopped (of_decide_eq_true hrun)
  · exact State.beaconExpires_due (s := s.begin) hclock htimer hdue hfull rfl hrun hacc hphase
  · exact if_neg (Bool.eq_false_iff.1 (early htimer hearly))

end Sys2Proof.Machine

/-! ## Entry to HALTED (R66, R97, R142, R154, R158, R191, R192, R204) -/

namespace Sys2Proof.Machine

/-! ### What the aborting counts -/

/-- From s to t no entry to HALTED is counted. -/
def State.NoHalt (s t : State) : Prop := t.count .halts = s.count .halts

theorem State.NoHalt.refl (s : State) : s.NoHalt s := rfl

theorem State.NoHalt.trans {s t u : State} (h : s.NoHalt t) (k : t.NoHalt u) : s.NoHalt u := Eq.trans k h

theorem State.NoHalt.of_counters {s t : State} (h : t.counters = s.counters) : s.NoHalt t := State.count_congr h .halts

theorem State.NoHalt.ite {p : Prop} [Decidable p] {s t u : State} (ht : s.NoHalt t) (hu : s.NoHalt u) : s.NoHalt (if p then t else u) := by
  split
  · exact ht
  · exact hu

theorem State.NoHalt.foldl {α : Type} {f : State → α → State} (h : ∀ (s : State) (a : α), s.NoHalt (f s a)) (l : List α) (s : State) :
    s.NoHalt (l.foldl f s) := by
  induction l generalizing s with
  | nil => exact .refl s
  | cons a l ih => exact (h s a).trans (ih _)

theorem State.FreesOnly.noHalt {s t : State} (h : s.FreesOnly t) : s.NoHalt t := by
  obtain ⟨⟨bufs, w, rfl⟩, -⟩ := h
  exact .refl s

theorem State.bump_noHalt (s : State) {c : Ctr} (h : c ≠ .halts) : s.NoHalt (s.bump c) := s.count_bump_other h

theorem State.bumpBy_noHalt (s : State) {c : Ctr} (h : c ≠ .halts) (n : Nat) : s.NoHalt (s.bumpBy c n) := by
  induction n generalizing s with
  | zero => exact .refl s
  | succ n ih => exact (s.bump_noHalt h).trans (ih _)

theorem State.abandonIfForming_noHalt (s : State) (id : SlotId) : s.NoHalt (s.abandonIfForming id) :=
  .ite ((State.NoHalt.of_counters (t := s.clearSlot id) (by simp [State.clearSlot])).trans (State.bump_noHalt _ (by decide))) (.refl s)

theorem State.endCarry_noHalt (s : State) : s.NoHalt s.endCarry := by
  cases h : s.carryingSlot with
  | none =>
    rw [State.endCarry, h]
    exact .refl s
  | some id =>
    rw [State.endCarry_eq h]
    exact (s.freeHeld_freesOnly id).noHalt.trans (.of_counters (by simp [State.clearSlot]))

theorem State.stopCarry_noHalt (s : State) : s.NoHalt s.stopCarry :=
  (State.bumpBy_noHalt (s.withAru { s.aru with copies := [] }) (by decide) _).trans (State.endCarry_noHalt _)

theorem State.queueRelease_noHalt (s : State) (p : FilePair) (reason : ReleaseReason) : s.NoHalt (s.queueRelease p reason) := by
  unfold State.queueRelease
  refine .ite ?_ (s.bump_noHalt (by decide))
  exact State.bump_noHalt (s.withAru _) (by decide)

theorem State.queueReleases_noHalt (s : State) (rs : List Release) : s.NoHalt (s.queueReleases rs) := by
  unfold State.queueReleases
  exact .foldl (fun s r => s.queueRelease_noHalt r.pair r.reason) rs s

theorem State.takeFetchesN_noHalt (s : State) (n : Nat) : s.NoHalt (s.takeFetchesN n) := by
  induction n generalizing s with
  | zero => exact .refl s
  | succ n ih =>
    unfold State.takeFetchesN
    split
    · next i r rest _ _ =>
      dsimp only
      split
      · next m _ =>
        refine State.NoHalt.trans (.of_counters ?_) (ih _)
        exact State.setSlot_counters ..
      · exact ih (s.withFen { s.fen with queue := rest })
    · exact .refl s

theorem State.takeFetches_noHalt (s : State) : s.NoHalt s.takeFetches := by
  unfold State.takeFetches
  exact s.takeFetchesN_noHalt 4

theorem State.dropFetch_noHalt (s : State) (i : Fin 4) : s.NoHalt (s.dropFetch i) := .of_counters rfl

theorem State.abortFetches_noHalt (s : State) (id : SlotId) : s.NoHalt (s.abortFetches id) := by
  have hqueue : s.NoHalt (s.withFen { s.fen with queue := s.fen.queue.filter fun r => r.slot ≠ id }) := .of_counters rfl
  unfold State.abortFetches
  dsimp only
  refine .trans hqueue (.trans ?_ (State.takeFetches_noHalt _))
  exact .foldl (fun s i => .ite (s.dropFetch_noHalt i) (.refl s)) _ _

theorem State.issueAbandon_noHalt (s : State) : s.NoHalt s.issueAbandon := by
  unfold State.issueAbandon
  split
  · exact State.bump_noHalt (State.emit _ _) (by decide)
  · exact .refl s

theorem State.abortDrain_noHalt (s : State) (id : SlotId) : s.NoHalt (s.abortDrain id) := by
  unfold State.abortDrain
  dsimp only
  split
  · refine .ite (.ite ?_ (.of_counters rfl)) (.of_counters rfl)
    refine State.NoHalt.trans ?_ (State.issueAbandon_noHalt _)
    exact .of_counters rfl
  · exact .of_counters rfl

theorem State.abortBegin_noHalt (s : State) (id : SlotId) (cause : AbortCause) : s.NoHalt (s.abortBegin id cause) := by
  have hcause : cause.counter ≠ .halts := by cases cause <;> decide
  have hbeacon : (s.bump cause.counter).NoHalt ((s.bump cause.counter).triggerBeacon id .aborted) := .ite (.of_counters rfl) (.refl _)
  have hfirst := (s.bump_noHalt hcause).trans hbeacon
  unfold State.abortBegin
  dsimp only
  generalize (s.bump cause.counter).triggerBeacon id .aborted = u at hfirst ⊢
  have hstop : u.NoHalt (if (s.slot id).state.accepting = true then u.stopBeaconTimer else u) := .ite (.of_counters rfl) (.refl u)
  generalize (if (s.slot id).state.accepting = true then u.stopBeaconTimer else u) = v at hstop ⊢
  refine (hfirst.trans hstop).trans (State.NoHalt.trans ?_ ((State.abortFetches_noHalt _ id).trans (State.abortDrain_noHalt _ id)))
  exact .of_counters (State.setSlot_counters ..)

theorem State.abortPack_noHalt {cause : AbortCause} (hc : cause.plansCarry = false) (s : State) (id : SlotId) :
    s.NoHalt (s.abortPack id cause) := by
  unfold State.abortPack
  refine .ite ?_ (.refl s)
  obtain ⟨u, hplan, hfrees⟩ := (s.abortBegin id cause).abortPlan_none id
  simp only [hc, Bool.false_eq_true, if_false, List.isEmpty_nil, if_true, hplan]
  generalize abortReleases _ _ _ _ _ = releases
  have hqueued := ((s.abortBegin_noHalt id cause).trans hfrees.noHalt).trans (u.queueReleases_noHalt releases)
  generalize u.queueReleases releases = v at hqueued ⊢
  have hstop : v.NoHalt (v.stopCarryInto id s.aru.copies) := .ite v.stopCarry_noHalt (.refl v)
  generalize v.stopCarryInto id s.aru.copies = w at hstop ⊢
  refine (hqueued.trans hstop).trans ?_
  unfold State.abortFinish
  rw [if_pos rfl]
  exact .ite (.of_counters (by simp [State.clearSlot])) (.refl w)

theorem State.abortEverything_noHalt {cause : AbortCause} (hc : cause.plansCarry = false) (s : State) :
    s.NoHalt (s.abortEverything cause) := by
  have hbegun : s.NoHalt s.handsEmptied := .of_counters rfl
  unfold State.abortEverything
  dsimp only
  rw [← State.handsEmptied]
  generalize s.handsEmptied = t at hbegun ⊢
  have hcleared := ((t.abandonIfForming_noHalt .a).trans (State.abandonIfForming_noHalt _ .b)).trans (State.stopCarry_noHalt _)
  generalize ((t.abandonIfForming .a).abandonIfForming .b).stopCarry = u at hcleared ⊢
  have haborted : u.NoHalt (u.slotsBySeq.foldl (fun s id => s.abortPack id cause) u) := .foldl (fun s id => s.abortPack_noHalt hc id) _ _
  generalize u.slotsBySeq.foldl _ u = v at haborted ⊢
  obtain ⟨spl, w, hfree, -⟩ := v.freeAllBuffers_eq
  rw [hfree]
  exact ((hbegun.trans hcleared).trans haborted).trans (.of_counters rfl)

/-! ### The step -/

theorem State.takeRelease_noHalt (s : State) (r : Release) (rest : List Release) : s.NoHalt (s.takeRelease r rest) :=
  (State.bump_noHalt (s.withAru { s.aru with releases := rest }) (by decide)).trans (.of_counters rfl)

/-- With no fetch waiting, and no claim and no beacon to send, the arbiter counts a release at most (R37). -/
theorem State.arbitrate_silent {s : State} (hsilent : ¬ (s.mgt.run = .run ∨ s.mgt.run = .quiescing)) (hitems : s.fen.items = []) :
    s.NoHalt s.arbitrate ∧ s.arbitrate.mgt = s.mgt ∧ s.arbitrate.fen = s.fen := by
  unfold State.arbitrate
  split
  · exact ⟨.refl s, rfl, rfl⟩
  · cases hr : s.aru.releases with
    | nil =>
      rw [State.arbiterChoice_none hr hitems (.inl hsilent)]
      exact ⟨.refl s, rfl, rfl⟩
    | cons r rest =>
      rw [State.arbiterChoice_release hr]
      exact ⟨s.takeRelease_noHalt r rest, rfl, rfl⟩

theorem State.settle_noHalt {s : State} (hsilent : ¬ (s.mgt.run = .run ∨ s.mgt.run = .quiescing)) (hitems : s.fen.items = []) :
    s.NoHalt s.settle := by
  have hround {u : State} (hm : u.mgt = s.mgt) : u.roundIfWoken = u.withWake false :=
    State.roundIfWoken_held (State.roundRuns_stopped (by rw [hm]; exact fun h => hsilent (.inl h)))
  obtain ⟨hfirst, hmgt, hfen⟩ := State.arbitrate_silent hsilent hitems
  obtain ⟨hsecond, hmgt', -⟩ := State.arbitrate_silent (s := s.arbitrate.withWake false) (by rw [State.withWake_mgt, hmgt]; exact hsilent)
    (by rw [State.withWake_fen, hfen]; exact hitems)
  have hmgt'' : ((s.arbitrate.withWake false).arbitrate.withWake false).mgt = s.mgt := hmgt'.trans hmgt
  have hquiet : ((s.arbitrate.withWake false).arbitrate.withWake false).quietNow = false :=
    State.quietNow_unfinished fun h => absurd (.inr (hmgt'' ▸ h)) hsilent
  unfold State.settle
  rw [hround hmgt, hround (hmgt'.trans hmgt), State.testQuiet_early hquiet]
  exact (hfirst.trans (.of_counters rfl)).trans (hsecond.trans (.of_counters rfl))

/-- The state in which the aborting of the entry to HALTED begins (R204). -/
def State.inHalted (s : State) : State := (s.withMgt { s.mgt with run := .halted, attentionHeld := false }).bump .halts

theorem State.enterHalted_eq (s : State) : s.enterHalted = (s.inHalted.abortEverything .halt).settle := rfl

theorem State.haltDue_iff (s : State) : s.haltDue = true ↔ s.inService < 24 ∧ s.mgt.run ≠ .selftest ∧ s.mgt.run ≠ .halted := by
  simp [State.haltDue, and_assoc]

/-- What the entry to HALTED does, before the arbiter's turn (R192, R204). -/
theorem State.abortHalted {s : State} (hemitted : s.emitted = []) :
    s.givenUp (s.inHalted.abortEverything .halt) .halt ∧
    (s.inHalted.abortEverything .halt).mgt = { s.mgt with
      run := .halted, attentionHeld := false, records := (s.inHalted.abortEverything .halt).mgt.records } ∧
    (s.inHalted.abortEverything .halt).oft = s.oft ∧
    (s.inHalted.abortEverything .halt).pvw = { s.pvw with items := [], timer := none } ∧
    (s.inHalted.abortEverything .halt).fen.items = [] ∧
    (s.inHalted.abortEverything .halt).count .halts = saturatingNext (s.count .halts) := by
  have hsilent : ¬ (s.inHalted.mgt.run = .run ∨ s.inHalted.mgt.run = .quiescing) := by simp [State.inHalted]
  have hcount := State.abortEverything_noHalt (cause := .halt) rfl s.inHalted
  have hgivenUp := State.abortEverything_givenUp (s := s.inHalted) (cause := .halt) rfl hsilent hemitted
  obtain ⟨⟨rs, hmgt⟩, -, hoft, hpvw, hfen⟩ := State.abortEverything_frame (s := s.inHalted) (cause := .halt) rfl hsilent
  generalize s.inHalted.abortEverything .halt = t at *
  refine ⟨hgivenUp, ?_, hoft, hpvw, congrArg Fen.items hfen, ?_⟩
  · rw [hmgt]
    rfl
  · exact Eq.trans hcount (State.count_bump _ .halts)

/-- Settles O54: the entry to HALTED gives up what is in hand, and the arbiter's turn after it touches none of that. -/
theorem entryToHalted : Obligations.EntryToHalted := by
  intro s
  refine ⟨fun hnot => congrArg Host.Outcome.next (if_neg fun hdue => ?_), fun hfew hself hhalted => ?_⟩
  · obtain ⟨hfew, hself, hhalted⟩ := s.haltDue_iff.1 hdue
    rcases hnot with h | h | h
    · omega
    · exact hself h
    · exact hhalted h
  · have hexec : exec .entryToHalted s = .next s.begin.enterHalted :=
      congrArg Host.Outcome.next (if_pos (s.haltDue_iff.2 ⟨hfew, hself, hhalted⟩))
    obtain ⟨hgivenUp, hmgt, hoft, hpvw, hitems, hcount⟩ := State.abortHalted (s := s.begin) rfl
    rw [State.enterHalted_eq] at hexec
    generalize s.begin.inHalted.abortEverything .halt = u at *
    have hrun : u.mgt.run = .halted := congrArg Mgt.run hmgt
    have hsilent : ¬ (u.mgt.run = .run ∨ u.mgt.run = .quiescing) := by simp [hrun]
    have hnoHalt := State.settle_noHalt hsilent hitems
    obtain ⟨lif, aru, counters, hsettle, hstation, hcopies, hheld⟩ := State.settle_silent (by simp [hrun]) hsilent hitems
    rw [hsettle] at hexec hnoHalt
    refine ⟨_, hexec, ?_, ?_, hmgt, hoft, hpvw, Eq.trans hnoHalt hcount⟩
    · exact State.givenUp_congr (s := s) hgivenUp rfl rfl hcopies rfl rfl rfl rfl rfl hstation rfl hheld
    · simp [State.attention, hrun]

end Sys2Proof.Machine

/-! ## A placement that closes its pack (R68, R69, R83, R105, R107 to R110, R144) -/

namespace Sys2Proof.Machine

/-! ### The stages of such a placement -/

/-- From s to t a claim has left the table and its file's member waits behind the fetch order queue; its slot has become y, the peer view p and
the next sequence n, and these counters have risen. -/
structure State.Placing (id : SlotId) (c : Claim) (y : Slot) (n : Word32) (p : Pvw) (raised : List Ctr) (s t : State) : Prop where
  slot : t.slot id = y
  other : t.slot id.other = s.slot id.other
  nextSeq : t.pkb.nextSeq = n
  pvw : t.pvw = p
  sel : t.sel = { s.sel with claims := dropClaim c.file.pair s.sel.claims }
  fen : t.fen = { s.fen with queue := s.fen.queue ++ [⟨id, (s.slot id).members.length⟩] }
  takes : s.takesBuffers t id (s.slot id).taken
    (seg ((s.slot id).e + footprintOf c.file.size - 1) + 1 - (s.slot id).taken)
  counters : t.counters = (raised.foldl State.bump s).counters
  lif : t.lif = s.lif
  oft : t.oft = s.oft
  drn : t.drn = s.drn
  aru : t.aru = s.aru
  mgt : t.mgt = s.mgt
  mem : t.mem = s.mem
  wake : t.wake = false

section
variable {id : SlotId} {c : Claim} {y : Slot} {n : Word32} {p : Pvw} {raised : List Ctr} {s t : State}

/-- One counter more. -/
theorem State.Placing.bump (h : State.Placing id c y n p raised s t) (k : Ctr) : State.Placing id c y n p (raised ++ [k]) s (t.bump k) where
  slot := h.slot
  other := h.other
  nextSeq := h.nextSeq
  pvw := h.pvw
  sel := h.sel
  fen := h.fen
  takes := h.takes
  counters := by
    rw [List.foldl_append]
    exact State.bump_counters_congr h.counters k
  lif := h.lif
  oft := h.oft
  drn := h.drn
  aru := h.aru
  mgt := h.mgt
  mem := h.mem
  wake := h.wake

theorem State.Placing.recomputed (h : State.Placing id c y n p raised s t) : State.Placing id c y n p raised s t.recomputePromised where
  slot := h.slot
  other := h.other
  nextSeq := h.nextSeq
  pvw := h.pvw
  sel := h.sel
  fen := h.fen
  takes := State.takesBuffers_congr (fun _ => rfl) (State.recomputePromised_buffer t) h.takes
  counters := h.counters
  lif := h.lif
  oft := h.oft
  drn := h.drn
  aru := h.aru
  mgt := h.mgt
  mem := h.mem
  wake := h.wake

theorem State.Placing.closing (h : State.Placing id c y n p raised s t) (hs : s.mgt.run = .run ∨ s.mgt.run = .quiescing) (cause : CloseCause) :
    State.Placing id c { y with state := .closing, ageDeadline := none } n
      { p with
        items := putItem ⟨id, s.mgt.config.epoch, y.seq, .closing, y.primaryKey.getD 0, fillOf y.e, y.members.length⟩ p.items
        timer := p.timer.filter (· ≤ s.now) }
      (raised ++ [cause.counter]) s (t.closing id cause) := by
  obtain ⟨hlif, hoft, hsel, hfen, hspl, hdrn, haru, hmgt, hmem⟩ := t.closing_frame id cause
  exact {
    slot := by rw [State.closing_slot, h.slot]
    other := by rw [State.closing_slot_other, h.other]
    nextSeq := by rw [State.closing_pkb, ← h.nextSeq]; cases id <;> rfl
    pvw := by rw [State.closing_pvw_sending (by rw [h.mgt]; exact hs), h.slot, h.pvw, h.mgt, State.now_congr h.mgt]
    sel := hsel.trans h.sel
    fen := hfen.trans h.fen
    takes := State.takesBuffers_congr (fun _ => rfl) (State.buffer_congr hspl) h.takes
    counters := by
      rw [List.foldl_append]
      exact (t.closing_counters id cause).trans (State.bump_counters_congr h.counters _)
    lif := hlif.trans h.lif
    oft := hoft.trans h.oft
    drn := hdrn.trans h.drn
    aru := haru.trans h.aru
    mgt := hmgt.trans h.mgt
    mem := hmem.trans h.mem
    wake := (t.closing_wake id cause).trans h.wake }

/-- The opening of a pack at its first placement, ahead of what follows it (R107). -/
def State.opensPack (s : State) (id : SlotId) (key : Word64) : State :=
  let x := s.slot id
  let s := s.setSlot id
    { x with
      state := .opened, seq := s.pkb.nextSeq, tentativeKey := none, primaryKey := some (x.tentativeKey.getD key),
      openTime := some s.timestamp, openClock := some s.now,
      ageDeadline := some (s.now + s.mgt.config.packAgeLimit * 1000) }
  let s := s.withPkb { s.pkb with nextSeq := saturatingNext s.pkb.nextSeq }
  (s.triggerBeacon id .opened).bump .packsOpened

theorem State.openPack_eq (s : State) (id : SlotId) (key : Word64) : s.openPack id key =
    if (s.opensPack id key).mgt.run = .quiescing then (s.opensPack id key).closeFor id .quiesce
    else (s.opensPack id key).yieldCheck id
      ((s.opensPack id key).pvw.table.filter fun y => (s.opensPack id key).isLive y && y.phase = .opened) := rfl

/-- The slot of a pack opened now (R107). -/
def State.openedSlot (s : State) (y : Slot) (n : Word32) (key : Word64) : Slot :=
  { y with
    state := .opened, seq := n, tentativeKey := none, primaryKey := some (y.tentativeKey.getD key), openTime := some s.timestamp,
    openClock := some s.now, ageDeadline := some (s.now + s.mgt.config.packAgeLimit * 1000) }

theorem State.opensPack_sending (hs : t.mgt.run = .run ∨ t.mgt.run = .quiescing) (key : Word64) : t.opensPack id key =
    State.bump (((t.setSlot id (t.openedSlot (t.slot id) t.pkb.nextSeq key)).withPkb
      { (t.setSlot id (t.openedSlot (t.slot id) t.pkb.nextSeq key)).pkb with nextSeq := saturatingNext t.pkb.nextSeq }).withPvw
      { t.pvw with
        items := putItem ⟨id, t.mgt.config.epoch, t.pkb.nextSeq, .opened, (t.slot id).tentativeKey.getD key, fillOf (t.slot id).e,
          (t.slot id).members.length⟩ t.pvw.items
        timer := t.pvw.timer.filter (· ≤ t.now) }) .packsOpened := by
  unfold State.opensPack State.triggerBeacon
  dsimp only
  rw [if_pos (by rw [State.withPkb_mgt, State.setSlot_mgt]; exact hs)]
  cases id <;> rfl

theorem State.Placing.opens (h : State.Placing id c y n p raised s t) (hs : s.mgt.run = .run ∨ s.mgt.run = .quiescing) (key : Word64) :
    State.Placing id c (s.openedSlot y n key) (saturatingNext n)
      { p with
        items := putItem ⟨id, s.mgt.config.epoch, n, .opened, y.tentativeKey.getD key, fillOf y.e, y.members.length⟩ p.items
        timer := p.timer.filter (· ≤ s.now) }
      (raised ++ [.packsOpened]) s (t.opensPack id key) := by
  have heq := State.opensPack_sending (id := id) (t := t) (by rw [h.mgt]; exact hs) key
  have hopened : t.openedSlot (t.slot id) t.pkb.nextSeq key = s.openedSlot y n key := by
    unfold State.openedSlot
    rw [h.slot, h.nextSeq, State.timestamp_congr h.mgt, State.now_congr h.mgt, h.mgt]
  rw [hopened, h.slot, h.nextSeq, h.pvw, h.mgt, State.now_congr h.mgt] at heq
  rw [heq]
  refine State.Placing.bump ?_ .packsOpened
  exact {
    slot := by cases id <;> rfl
    other := by rw [← h.other]; cases id <;> rfl
    nextSeq := rfl
    pvw := rfl
    sel := by simpa using h.sel
    fen := by simpa using h.fen
    takes := State.takesBuffers_congr (fun _ => rfl) (State.buffer_congr (by simp)) h.takes
    counters := by simpa using h.counters
    lif := by simpa using h.lif
    oft := by simpa using h.oft
    drn := by simpa using h.drn
    aru := by simpa using h.aru
    mgt := by simpa using h.mgt
    mem := by simpa using h.mem
    wake := by simpa using h.wake }

/-- The slot after a placement (R105, steps 2 to 5). -/
def State.placedSlot (s : State) (id : SlotId) (file : FileInfo) (key : Word64) : Slot :=
  { s.slot id with
    e := (s.slot id).e + footprintOf file.size
    members := (s.slot id).members ++ [newMember file key (s.slot id).e false]
    taken := max (s.slot id).taken (seg ((s.slot id).e + footprintOf file.size - 1) + 1) }

/-- A placement changes its slot, buffers and the fetch order queue. -/
theorem State.placed_stores (s : State) (id : SlotId) (file : FileInfo) (key : Word64) : ∃ bufs : Vector Buffer 64,
    s.placed id file key = ((s.setSlot id (s.placedSlot id file key)).withSpl { s.spl with buffers := bufs }).withFen { s.fen with
      queue := if file.size = 0 then s.fen.queue else s.fen.queue ++ [⟨id, (s.slot id).members.length⟩] } := by
  obtain ⟨bufs, hbufs⟩ := State.holdThrough_eq (s.setSlot id { s.slot id with
    e := (s.slot id).e + footprintOf file.size,
    members := (s.slot id).members ++ [newMember file key (s.slot id).e false] }) id ((s.slot id).e + footprintOf file.size)
  refine ⟨bufs, ?_⟩
  unfold State.placed State.extended
  dsimp only
  rw [hbufs, State.setSlot_slot, State.setSlot_spl]
  cases id <;> rfl

/-- The state in which a bound claim's file is placed: the GRANT is counted, and the claim has left the table (R29, R83). -/
def State.claimGone (s : State) (p : FilePair) : State := ((s.begin.bump .framesAccepted).removeClaim p).bump .claimsPlaced

theorem State.claimGone_counters (s : State) (p : FilePair) :
    (s.claimGone p).counters = ((s.bump .framesAccepted).bump .claimsPlaced).counters :=
  State.bump_counters_congr (State.bump_counters_congr s.begin_counters _) _

theorem State.claimGone_sel (s : State) (p : FilePair) : (s.claimGone p).sel = { s.sel with claims := dropClaim p s.sel.claims } := rfl

theorem State.claimGone_frame (s : State) (p : FilePair) : (s.claimGone p).pkb = s.pkb ∧ (s.claimGone p).pvw = s.pvw ∧
    (s.claimGone p).fen = s.fen ∧ (s.claimGone p).spl = s.spl ∧ (s.claimGone p).lif = s.lif ∧ (s.claimGone p).oft = s.oft ∧
    (s.claimGone p).drn = s.drn ∧ (s.claimGone p).aru = s.aru ∧ (s.claimGone p).mgt = s.mgt ∧ (s.claimGone p).mem = s.mem ∧
    (s.claimGone p).wake = false := ⟨rfl, rfl, rfl, rfl, rfl, rfl, rfl, rfl, rfl, rfl, rfl⟩

theorem State.claimGone_placed (s : State) (id : SlotId) {c : Claim} (hsize : 0 < c.file.size) :
    State.Placing id c (s.placedSlot id c.file c.key) s.pkb.nextSeq s.pvw [.framesAccepted, .claimsPlaced] s
      ((s.claimGone c.file.pair).placed id c.file c.key) := by
  obtain ⟨hpkb, hpvw, hfen, hspl, hlif, hoft, hdrn, haru, hmgt, hmem, hwake⟩ := s.claimGone_frame c.file.pair
  have hsel := s.claimGone_sel c.file.pair
  have hcounters := s.claimGone_counters c.file.pair
  generalize s.claimGone c.file.pair = b at *
  have hslot : ∀ j, b.slot j = s.slot j := State.slot_of_pkb hpkb
  have htakes := b.placed_takes id c.file c.key
  obtain ⟨bufs, heq⟩ := b.placed_stores id c.file c.key
  have hplaced := b.placed_slot id c.file c.key
  rw [hslot] at hplaced htakes
  rw [if_neg (by omega), hslot, hfen] at heq
  exact {
    slot := hplaced
    other := by rw [heq]; refine Eq.trans ?_ (hslot id.other); cases id <;> rfl
    nextSeq := by rw [heq, ← hpkb]; cases id <;> rfl
    pvw := by rw [heq]; exact (State.setSlot_pvw ..).trans hpvw
    sel := by rw [heq]; exact (State.setSlot_sel ..).trans hsel
    fen := by rw [heq]; rfl
    takes := State.takesBuffers_congr (fun i => (State.buffer_congr hspl i).symm) (fun _ => rfl) htakes
    counters := by rw [heq]; exact (State.setSlot_counters ..).trans hcounters
    lif := by rw [heq]; exact (State.setSlot_lif ..).trans hlif
    oft := by rw [heq]; exact (State.setSlot_oft ..).trans hoft
    drn := by rw [heq]; exact (State.setSlot_drn ..).trans hdrn
    aru := by rw [heq]; exact (State.setSlot_aru ..).trans haru
    mgt := by rw [heq]; exact (State.setSlot_mgt ..).trans hmgt
    mem := by rw [heq]; exact (State.setSlot_mem ..).trans hmem
    wake := by rw [heq]; exact (State.setSlot_wake ..).trans hwake }

/-! ### What the tests at a placement find -/

/-- A slot with a member still to be fetched does not meet the close condition (R111). -/
theorem State.closeReady_granted {m : Member} (hm : m ∈ (s.slot id).members) (hg : m.state = .granted) : s.closeReady id = false := by
  have hall : ((s.slot id).members.all fun m => m.state.settled) = false :=
    List.all_eq_false.2 ⟨m, hm, by rw [hg]; decide⟩
  rw [State.closeReady, hall, Bool.and_false]

theorem State.testMargin_unopened (h : (s.slot id).state ≠ .opened) : s.testMargin id = s := by
  rw [State.testMargin, State.closeFor_unopened h, ite_self]

theorem State.testMemberLimit_unopened (h : (s.slot id).state ≠ .opened) : s.testMemberLimit id = s := by
  rw [State.testMemberLimit, State.closeFor_unopened h, ite_self]

/-- The close and commit tests at the end of a placement that leaves a member to be fetched and the segment at the commit point open. -/
theorem State.placeTests_idle (hready : s.closeReady id = false) (hopen : (s.slot id).segmentOpen) :
    ((s.testClose id).testCommit id).wakeUp = s.wakeUp := by
  have hclose : s.testClose id = s := by
    rw [State.testClose, hready, Bool.and_false]
    rfl
  rw [hclose, State.testCommit, State.commitRun_of_none (State.committable_of_segmentOpen hopen)]

/-- The promised count of an accepting slot (R10, R104). -/
theorem State.recomputePromised_promised (hacc : s.accepting = some id) :
    s.recomputePromised.spl.promised = demand (s.slot id).taken (s.roomOf id).committed := by
  unfold State.recomputePromised
  rw [hacc]
  rfl

/-- The committed extent after a placement (R9). -/
theorem State.Placing.committed (h : State.Placing id c y n p raised s t) : (t.roomOf id).committed =
    y.e + (((dropClaim c.file.pair s.sel.claims).filter fun d => d.slot = some id).map fun d => footprintOf d.file.size).sum +
      mc (y.members.length + ((dropClaim c.file.pair s.sel.claims).filter fun d => d.slot = some id).length) := by
  unfold State.roomOf Room.committed State.boundClaims
  rw [h.slot, h.sel]

/-! ### The forms of the placement -/

/-- The entry to CLOSING of a pack with a member still to be fetched, and the tests behind it. -/
theorem State.placeTests_closing (hready : s.closeReady id = false) (hopen : (s.slot id).segmentOpen) (cause : CloseCause) :
    (((s.closing id cause).testClose id).testCommit id).wakeUp = (s.closing id cause).wakeUp := by
  obtain ⟨-, -, hsel, -⟩ := s.closing_frame id cause
  refine State.placeTests_idle ((State.closeReady_congr hsel (by rw [State.closing_slot])).trans hready) ?_
  rw [State.closing_slot]
  exact hopen

section
variable {file : FileInfo} {key : Word64} (hfetch : s.freeFetchSlot = none) (hready : (s.placed id file key).closeReady id = false)
  (hopen : ((s.placed id file key).slot id).segmentOpen)
include hfetch hready hopen

/-- A placement in an OPEN pack that leaves less room than the margin (R108). -/
theorem State.place_room (ho : ((s.placed id file key).slot id).state = .opened)
    (hroom : capacity ((s.placed id file key).slot id).limit <
      ((s.placed id file key).roomOf id).committed + (s.placed id file key).mgt.config.closeMargin) :
    s.place id file key false = ((s.placed id file key).recomputePromised.closing id .room).wakeUp := by
  rw [State.place_eq, State.placed_eq hfetch]
  dsimp only
  generalize s.placed id file key = t at *
  have hmargin : t.recomputePromised.testMargin id = t.recomputePromised.closing id .room :=
    (if_pos hroom).trans (State.closeFor_stays (s := t.recomputePromised) ho hready .room)
  have hmembers : (t.recomputePromised.closing id .room).testMemberLimit id = t.recomputePromised.closing id .room :=
    State.testMemberLimit_unopened (by rw [State.closing_slot]; exact nofun)
  rw [if_neg (by rw [ho]; decide), hmargin, hmembers]
  exact State.placeTests_closing (s := t.recomputePromised) hready hopen .room

/-- A placement in an OPEN pack that fills its member table (R109). -/
theorem State.place_memberLimit (ho : ((s.placed id file key).slot id).state = .opened)
    (hlimit : ((s.placed id file key).slot id).members.length = 4096)
    (hroom : ((s.placed id file key).roomOf id).committed + (s.placed id file key).mgt.config.closeMargin ≤
      capacity ((s.placed id file key).slot id).limit) :
    s.place id file key false = ((s.placed id file key).recomputePromised.closing id .memberLimit).wakeUp := by
  rw [State.place_eq, State.placed_eq hfetch]
  dsimp only
  generalize s.placed id file key = t at *
  have hmargin : t.recomputePromised.testMargin id = t.recomputePromised := State.testMargin_of_room (s := t.recomputePromised) hroom
  have hmembers : t.recomputePromised.testMemberLimit id = t.recomputePromised.closing id .memberLimit :=
    (if_pos hlimit).trans (State.closeFor_stays (s := t.recomputePromised) ho hready .memberLimit)
  rw [if_neg (by rw [ho]; decide), hmargin, hmembers]
  exact State.placeTests_closing (s := t.recomputePromised) hready hopen .memberLimit

end

/-- The first placement of a pack that goes on to CLOSING as it opens (R107). -/
theorem State.place_first {file : FileInfo} {key : Word64} {cause : CloseCause} (hfetch : s.freeFetchSlot = none)
    (ho : ((s.placed id file key).slot id).state = .forming) (hopens : (s.placed id file key).openPack id key = t.closing id cause)
    (hready : t.closeReady id = false) (hopen : (t.slot id).segmentOpen) :
    s.place id file key false = (t.closing id cause).recomputePromised.wakeUp := by
  rw [State.place_eq, State.placed_eq hfetch]
  dsimp only
  obtain ⟨-, -, hsel, -⟩ := t.closing_frame id cause
  have hclosing := t.closing_slot id cause
  rw [if_pos ho, hopens]
  generalize t.closing id cause = u at *
  have hunopened : (u.recomputePromised.slot id).state ≠ .opened := by
    rw [State.recomputePromised_slot, hclosing]
    exact nofun
  rw [State.testMargin_unopened hunopened, State.testMemberLimit_unopened hunopened]
  refine State.placeTests_idle ?_ ?_
  · exact (State.closeReady_congr (s := t) (t := u.recomputePromised) hsel (by rw [State.recomputePromised_slot, hclosing])).trans hready
  · rw [State.recomputePromised_slot, hclosing]
    exact hopen

/-- A pack that opens in QUIESCING closes at once (R107). -/
theorem State.openPack_quiescing {key : Word64} (hrun : s.mgt.run = .quiescing) (ho : ((s.opensPack id key).slot id).state = .opened)
    (hready : (s.opensPack id key).closeReady id = false) (hmgt : (s.opensPack id key).mgt = s.mgt) :
    s.openPack id key = (s.opensPack id key).closing id .quiesce := by
  rw [State.openPack_eq, if_pos (by rw [hmgt]; exact hrun)]
  exact State.closeFor_stays ho hready .quiesce

/-- A pack that opens in RUN and meets a live OPEN entry of its key with the better claim yields (R68). -/
theorem State.openPack_yields {key key' : Word64} {e : PeerEntry} (hrun : s.mgt.run = .run) (hacc : (s.opensPack id key).accepting = some id)
    (ho : ((s.opensPack id key).slot id).state = .opened) (hkey : ((s.opensPack id key).slot id).primaryKey = some key')
    (hready : (s.opensPack id key).closeReady id = false) (hmgt : (s.opensPack id key).mgt = s.mgt)
    (he : e ∈ (s.opensPack id key).pvw.table) (hlive : (s.opensPack id key).isLive e = true) (hphase : e.phase = .opened)
    (hcalls : (s.opensPack id key).callsForYield key' (fillOf ((s.opensPack id key).slot id).e) e = true) :
    s.openPack id key = ((s.opensPack id key).bump .yields).closing id .yield := by
  rw [State.openPack_eq, if_neg (by rw [hmgt, hrun]; decide)]
  rw [State.yieldCheck_yields ho hkey (List.mem_filter.2 ⟨he, by simp [hlive, hphase]⟩) hcalls]
  exact State.yieldNow_stays hacc ho hready

/-- The step of a GRANT whose placement is followed by the wake-up of its end only. -/
theorem exec_grant_placing {f : Frame} {sender : Station} {ticket : Word32} (hacc : s.accepts 0x23#8 f sender)
    (hread : readGrant f sender = some (ticket, s.lif.station)) (hclaim : s.claim? ⟨sender, ticket⟩ = some c) (hid : c.slot = some id)
    (hfull : s.holderFull) (hnone : s.noneToAdmit) (hplace : (s.claimGone c.file.pair).place id c.file c.key false = t.wakeUp)
    (h : State.Placing id c y n p raised s t) (hy : y.state ≠ .free) : exec (.grant f) s = .next t := by
  obtain ⟨-, hpair⟩ := State.claim_pair hclaim
  have hrec : s.begin.receiveGrant f = ((s.claimGone c.file.pair).place id c.file c.key false).settle := by
    rw [hpair]
    refine (State.receive_accepted _ _ (State.accepts_begin hacc) hread).trans ?_
    refine (congrArg State.settle (if_pos rfl)).trans (congrArg State.settle ?_)
    exact State.grantedHere_bound (s := s.begin.bump .framesAccepted) hclaim hid
  refine congrArg Host.Outcome.next (hrec.trans ?_)
  rw [hplace]
  exact State.settle_wakeUp (State.holderFull_congr hfull h.lif) (State.noneToAdmit_congr hnone h.mgt h.oft) (by rw [h.slot]; exact hy) h.wake

end

end Sys2Proof.Machine

/-! ## A GRANT that closes its pack (R83, R105, R107 to R110) -/

namespace Sys2Proof.Machine

section
variable {id : SlotId} {c : Claim} {y : Slot} {n : Word32} {p : Pvw} {raised : List Ctr} {s t : State}

theorem State.Placing.accepting (h : State.Placing id c y n p raised s t) (hy : y.state.accepting = true)
    (hother : (s.slot id.other).state.accepting = false) : t.accepting = some id :=
  State.accepting_eq_some (by rw [h.slot]; exact hy) (by rw [h.other]; exact hother)

/-- The member just granted is not settled, so the close condition is not met (R111). -/
theorem State.Placing.closeReady {m : Member} (h : State.Placing id c y n p raised s t) (hm : m ∈ y.members) (hg : m.state = .granted) :
    t.closeReady id = false := State.closeReady_granted (by rw [h.slot]; exact hm) hg

/-- The timer stopped twice at one reading is the timer stopped (R65). -/
theorem filter_due_twice (timer : Option Nat) (now : Nat) : (timer.filter (· ≤ now)).filter (· ≤ now) = timer.filter (· ≤ now) := by
  cases timer with
  | none => rfl
  | some e => by_cases h : e ≤ now <;> simp [Option.filter_some, h]

/-- The peer view of a pack that opens and closes in one event is that of its closing (R63, R65). -/
theorem closingBeacon_opened (x y : BeaconItem) (hslot : y.slot = x.slot) (p : Pvw) (now : Nat) :
    ({ p with
      items := putItem x (putItem y p.items)
      timer := (p.timer.filter (· ≤ now)).filter (· ≤ now) } : Pvw) =
    { p with items := putItem x p.items, timer := p.timer.filter (· ≤ now) } := by
  rw [putItem_putItem hslot, filter_due_twice]

end

/-- Settles O14: the member just placed keeps the pack from CLOSED, so each form of the placement ends with the entry to CLOSING. -/
theorem grantCloses : Obligations.GrantCloses := by
  intro f sender ticket c id s hacc hread hclaim hid hother hfull hnone hfetch hsize x e hopen claims bound committed m placed opened closes
  obtain ⟨-, hpair⟩ := State.claim_pair hclaim
  have hplaced := s.claimGone_placed id hsize
  have hgone : (s.claimGone c.file.pair).freeFetchSlot = none := hfetch
  have hlength : (x.members ++ [m]).length = x.members.length + 1 := by simp
  have hjoined : m ∈ x.members ++ [m] := List.mem_append_right _ (List.mem_singleton_self m)
  have hmember : newMember c.file c.key x.e false = m := by simp [newMember, m, Nat.ne_of_gt hsize]
  have hslot : s.placedSlot id c.file c.key = { x with e := e, members := x.members ++ [m], taken := max x.taken (seg (e - 1) + 1) } := by
    rw [State.placedSlot, hmember]
  rw [hslot] at hplaced
  have hcommitted {y : Slot} {n : Word32} {p : Pvw} {raised : List Ctr} {t : State} (h : State.Placing id c y n p raised s t)
      (he : y.e = e) (hlen : y.members.length = x.members.length + 1) : (t.roomOf id).committed = committed := by
    rw [h.committed, he, hlen, hpair]
    rfl
  have hpromised {y : Slot} {n : Word32} {p : Pvw} {raised : List Ctr} {t : State} (h : State.Placing id c y n p raised s t)
      (hstate : y.state.accepting = true) (he : y.e = e) (hm : y.members = x.members ++ [m])
      (htaken : y.taken = max x.taken (seg (e - 1) + 1)) :
      t.recomputePromised.spl.promised = demand (max x.taken (seg (e - 1) + 1)) committed := by
    rw [State.recomputePromised_promised (h.accepting hstate hother), hcommitted h he (hm ▸ hlength), h.slot, htaken]
  have closes_of {y : Slot} {n : Word32} {p : Pvw} {raised : List Ctr} {t : State} (h : State.Placing id c y n p raised s t)
      (hplace : (s.claimGone c.file.pair).place id c.file c.key false = t.wakeUp) (hy : y.state ≠ .free)
      (hp : p = { s.pvw with
        items := putItem ⟨id, s.mgt.config.epoch, y.seq, .closing, y.primaryKey.getD 0, fillOf e, x.members.length + 1⟩ s.pvw.items
        timer := s.pvw.timer.filter (· ≤ s.now) })
      (hprom : t.spl.promised = demand (max x.taken (seg (e - 1) + 1)) committed) (hn : raised.Nodup) : closes y n raised := by
    have hsel := h.sel
    rw [hpair] at hsel
    exact ⟨t, exec_grant_placing hacc hread hclaim hid hfull hnone hplace h hy, h.slot, h.other, h.nextSeq, h.pvw.trans hp, hsel, h.fen,
      h.takes, hprom, fun k => (State.count_congr h.counters k).trans (State.count_foldl_bump hn s k), h.lif, h.oft, h.drn, h.aru, h.mgt,
      h.mem⟩
  have hpopen : (((s.claimGone c.file.pair).placed id c.file c.key).slot id).segmentOpen := by rw [hplaced.slot]; exact hopen
  have hpready := hplaced.closeReady hjoined rfl
  have of_open (cause : CloseCause) (hs : s.mgt.run = .run ∨ s.mgt.run = .quiescing) (ho : x.state = .opened)
      (hplace : (s.claimGone c.file.pair).place id c.file c.key false =
        (((s.claimGone c.file.pair).placed id c.file c.key).recomputePromised.closing id cause).wakeUp)
      (hn : [Ctr.framesAccepted, .claimsPlaced, cause.counter].Nodup) :
      closes placed s.pkb.nextSeq [.framesAccepted, .claimsPlaced, cause.counter] := by
    obtain ⟨-, -, -, -, hspl, -⟩ := State.closing_frame ((s.claimGone c.file.pair).placed id c.file c.key).recomputePromised id cause
    refine closes_of (hplaced.recomputed.closing hs cause) hplace nofun (by rw [hlength]) ?_ hn
    rw [hspl]
    exact hpromised hplaced (by rw [ho]; rfl) rfl rfl rfl
  have of_first {raised : List Ctr} {t : State} (cause : CloseCause) (hs : s.mgt.run = .run ∨ s.mgt.run = .quiescing)
      (hfirst : (((s.claimGone c.file.pair).placed id c.file c.key).slot id).state = .forming)
      (hseq : s.pkb.nextSeq ≠ BitVec.allOnes 32)
      (ht : State.Placing id c
        (s.openedSlot { x with e := e, members := x.members ++ [m], taken := max x.taken (seg (e - 1) + 1) } s.pkb.nextSeq c.key)
        (saturatingNext s.pkb.nextSeq)
        { s.pvw with
          items := putItem ⟨id, s.mgt.config.epoch, s.pkb.nextSeq, .opened, x.tentativeKey.getD c.key, fillOf e,
            (x.members ++ [m]).length⟩ s.pvw.items
          timer := s.pvw.timer.filter (· ≤ s.now) } raised s t)
      (hopens : ((s.claimGone c.file.pair).placed id c.file c.key).openPack id c.key = t.closing id cause)
      (hn : (raised ++ [cause.counter]).Nodup) : closes opened (s.pkb.nextSeq + 1) (raised ++ [cause.counter]) := by
    have hclosing := ht.closing hs cause
    have hnext : saturatingNext s.pkb.nextSeq = s.pkb.nextSeq + 1 := if_neg hseq
    rw [hnext] at hclosing
    refine closes_of hclosing.recomputed (State.place_first hgone hfirst hopens (ht.closeReady hjoined rfl) (by rw [ht.slot]; exact hopen)) nofun ?_
      (hpromised hclosing rfl rfl rfl rfl) hn
    rw [← hlength]
    exact closingBeacon_opened
      ⟨id, s.mgt.config.epoch, opened.seq, .closing, opened.primaryKey.getD 0, fillOf e, (x.members ++ [m]).length⟩
      ⟨id, s.mgt.config.epoch, s.pkb.nextSeq, .opened, x.tentativeKey.getD c.key, fillOf e, (x.members ++ [m]).length⟩ rfl s.pvw s.now
  have hstate : (((s.claimGone c.file.pair).placed id c.file c.key).slot id).state = x.state := by rw [hplaced.slot]
  refine ⟨fun hrun ho hlimit hroom => ?_, fun hrun ho hlimit hroom => ?_, fun hrun ho hseq => ?_,
    fun hrun ho hseq now y heard hclock hy hheard hlive hphase hkey hbetter => ?_⟩
  · refine of_open .room hrun ho (State.place_room hgone hpready hpopen (hstate.trans ho) ?_) (by decide)
    rw [hplaced.slot, hcommitted hplaced rfl hlength, hplaced.mgt]
    exact hroom
  · refine of_open .memberLimit hrun ho (State.place_memberLimit hgone hpready hpopen (hstate.trans ho) ?_ ?_) (by decide)
    · rw [hplaced.slot]
      exact hlength.trans hlimit
    · rw [hplaced.slot, hcommitted hplaced rfl hlength, hplaced.mgt]
      exact hroom
  · have hopens := hplaced.opens (.inr hrun) c.key
    refine of_first .quiesce (.inr hrun) (hstate.trans ho) hseq hopens ?_ (by decide)
    exact State.openPack_quiescing (by rw [hplaced.mgt]; exact hrun) (by rw [hopens.slot]; rfl) (hopens.closeReady hjoined rfl)
      (hopens.mgt.trans hplaced.mgt.symm)
  · have hopens := hplaced.opens (.inl hrun) c.key
    refine of_first .yield (.inl hrun) (hstate.trans ho) hseq (hopens.bump .yields) ?_ (by decide)
    refine State.openPack_yields (key' := x.tentativeKey.getD c.key) (e := y) (by rw [hplaced.mgt]; exact hrun) (hopens.accepting rfl hother)
      (by rw [hopens.slot]; rfl) (by rw [hopens.slot]; rfl) (hopens.closeReady hjoined rfl) (hopens.mgt.trans hplaced.mgt.symm)
      (by rw [hopens.pvw]; exact hy) ?_ hphase ?_
    · exact (State.isLive_iff (by rw [hopens.mgt]; exact hclock) y).2 ⟨heard, hheard, by rw [hopens.mgt]; exact hlive⟩
    · rw [State.callsForYield_iff, hopens.slot, hopens.lif]
      exact ⟨hkey, hbetter.imp_right fun h => ⟨h.1.symm, h.2⟩⟩

end Sys2Proof.Machine

/-! ## The score of an eligible candidate (R76, R77) -/

namespace Sys2Proof.Machine

/-- The terms of the affinity table (R76). -/
theorem State.affinity_values {s : State} {c : Candidate} {a : Nat} (h : s.affinity c = some a) : a = 512 ∨ a = 320 ∨ a = 128 := by
  cases hk : c.key with
  | none => simp [State.affinity, hk] at h
  | some key =>
    cases hacc : s.accepting with
    | none => exact .inr (.inl ((State.affinity_of_none hk hacc a).1 h).1)
    | some id => exact ((State.affinity_of_some hk hacc a).1 h).imp And.left fun k => .inr k.1

/-- A score is an affinity term with the priority and the age term (R77). -/
theorem State.score?_eq_some_iff (s : State) (c : Candidate) (n : Nat) : s.score? c = some n ↔
    ∃ a, s.eligible c = some a ∧ n = a + priorityTerm c.file.cls + ageTerm (s.ageOf c) := by
  simp only [State.score?, Option.map_eq_some_iff, eq_comm (b := n)]

theorem priorityTerm_eq (cls : Nat) : priorityTerm cls = 96 * (if cls ≤ 3 then cls else 3) := by
  rw [priorityTerm, Nat.min_def]

/-- Settles O20: the three terms, each within its own range. -/
theorem scoreSum : Obligations.ScoreSum := by
  intro s c n hscore
  obtain ⟨a, ha, hn⟩ := (s.score?_eq_some_iff c n).1 hscore
  have hvalues := State.affinity_values ((s.eligible_eq_some_iff c a).1 ha).1
  have hclass : priorityTerm c.file.cls ≤ 288 := by unfold priorityTerm; omega
  have hage : ageTerm (s.ageOf c) ≤ 223 := Nat.min_le_right ..
  exact ⟨a, hvalues, ha, by rw [hn, priorityTerm_eq, ageTerm], by omega, by omega⟩

end Sys2Proof.Machine

/-! ## Answers that place nothing (R84 to R86, R88, R128, R187) -/

namespace Sys2Proof.Machine

section
variable {s : State} {f : Frame} {sender : Station} {ticket : Word32}

theorem exec_grant_here (hacc : s.accepts 0x23#8 f sender) (hread : readGrant f sender = some (ticket, s.lif.station)) :
    exec (.grant f) s = .next ((s.begin.bump .framesAccepted).grantedHere ⟨sender, ticket⟩).settle :=
  congrArg Host.Outcome.next ((State.receive_accepted _ _ (State.accepts_begin hacc) hread).trans (congrArg State.settle (if_pos rfl)))

theorem exec_refuse_here {reason : RefuseReason} (hacc : s.accepts 0x24#8 f sender)
    (hread : readRefuse f sender = some (ticket, s.lif.station, reason)) :
    exec (.refuse f) s = .next ((s.begin.bump .framesAccepted).refusedHere ⟨sender, ticket⟩ reason).settle :=
  congrArg Host.Outcome.next ((State.receive_accepted _ _ (State.accepts_begin hacc) hread).trans (congrArg State.settle (if_pos rfl)))

theorem exec_data_here {d : DataBody} (hacc : s.accepts 0x25#8 f sender) (hread : readData f sender = some (s.lif.station, d)) :
    exec (.data f) s = .next ((s.begin.bump .framesAccepted).dataArrives sender d).settle :=
  congrArg Host.Outcome.next ((State.receive_accepted _ _ (State.accepts_begin hacc) hread).trans (if_pos rfl))

end

theorem State.refusedHere_stray {s : State} {p : FilePair} (h : s.claim? p = none) (reason : RefuseReason) :
    s.refusedHere p reason = s.bump .strayRefusals := by
  simp only [State.refusedHere, h]

/-- A fetch receives a pair when it is RECEIVING with it (R128). -/
theorem Fetch.receives_iff (x : Fetch) (p : FilePair) : x.receives p = true ↔ (∃ e, x.phase = .receiving e) ∧ x.pair = p := by
  cases h : x.phase <;> simp [Fetch.receives, h]

/-- No fetch slot takes DATA for a pair that none is RECEIVING (R128). -/
theorem State.receivingSlot_none {s : State} {p : FilePair}
    (h : ∀ (i : Fin 4) (x : Fetch) (e : Nat), s.fen.slots[i] = some x → x.phase = .receiving e → x.pair ≠ p) :
    s.receivingSlot p = none := by
  refine List.findSome?_eq_none_iff.2 fun i _ => ?_
  cases hx : s.fen.slots[i] with
  | none => rfl
  | some x =>
    refine if_neg fun k => ?_
    obtain ⟨⟨e, he⟩, hp⟩ := (x.receives_iff p).1 k
    exact h i x e hx he hp

theorem State.dataArrives_stray {s : State} {source : Station} {d : DataBody} (h : s.receivingSlot ⟨source, d.ticket⟩ = none) :
    s.dataArrives source d = s.bump .strayData := by
  simp only [State.dataArrives, h]

/-- Settles O25: what nothing waits for is counted, and a count wakes nothing. -/
theorem strayAnswers : Obligations.StrayAnswers := by
  intro f sender s hfull hquiet
  have hsettle (k : Ctr) : ((s.begin.bump .framesAccepted).bump k).settle = (s.begin.bump .framesAccepted).bump k :=
    State.settle_unwoken hfull rfl hquiet
  refine ⟨fun ticket reason hacc hread hclaim => ?_, fun d hacc hread hnone => ?_⟩
  · rw [exec_refuse_here hacc hread, State.refusedHere_stray (s := s.begin.bump .framesAccepted) hclaim, hsettle]
  · rw [exec_data_here hacc hread, State.dataArrives_stray (s := s.begin.bump .framesAccepted) (State.receivingSlot_none hnone), hsettle]

/-! ### GRANT for a pair that is not placed (R84 to R86) -/

/-- A GRANT for an orphaned claim: the claim ends and its file is given back (R84). -/
theorem State.grantedHere_orphan {s : State} {p : FilePair} {c : Claim} (h : s.claim? p = some c) (hid : c.slot = none) :
    s.grantedHere p = (((s.removeClaim p).queueRelease p .abort).bump .abortedClaimGrants).wakeUp := by
  simp only [State.grantedHere, h, hid]

theorem State.grantedHere_duplicate {s : State} {p : FilePair} (h : s.claim? p = none) (hm : s.isMember p = true) :
    s.grantedHere p = s.bump .duplicateGrants := by
  simp only [State.grantedHere, h, hm, if_true]

theorem State.grantedHere_late {s : State} {p : FilePair} (h : s.claim? p = none) (hm : s.isMember p = false) :
    s.grantedHere p = (s.queueRelease p .late).bump .lateGrants := by
  simp only [State.grantedHere, h, hm, Bool.false_eq_true, if_false]

/-- A release made ready changes the release list and counters (R187). -/
theorem State.queueRelease_eq (s : State) (p : FilePair) (reason : ReleaseReason) :
    ∃ (releases : List Release) (counters : Vector Counter 84), s.queueRelease p reason =
      (s.withAru { s.aru with releases := s.aru.releases ++ releases }).withCounters counters := by
  unfold State.queueRelease
  split
  · exact ⟨[⟨p, reason⟩], _, rfl⟩
  · refine ⟨[], (s.bump .releaseOverflows).counters, ?_⟩
    rw [List.append_nil]
    rfl

/-- QUIET does not come nearer by a release made ready (R202). -/
theorem State.quietNow_release {s t : State} {releases : List Release} (h : s.quietNow = false) (hm : t.mgt = s.mgt) (hp : t.pkb = s.pkb)
    (hr : t.aru.releases = s.aru.releases ++ releases) : t.quietNow = false := by
  unfold State.quietNow at *
  rw [hm, hp, hr]
  cases hs : s.aru.releases <;> simp_all

/-- Nothing follows an event that queues a release and is counted, whether or not it wakes the selector, where no round admits (R75, R187). -/
theorem State.settle_releaseQueued {s : State} (hl : s.holderFull) (hn : s.noneToAdmit) (hq : s.quietNow = false) (hw : s.wake = false)
    (p : FilePair) (reason : ReleaseReason) (k : Ctr) (woken : Bool) :
    (if woken then ((s.queueRelease p reason).bump k).wakeUp else (s.queueRelease p reason).bump k).settle =
      (s.queueRelease p reason).bump k := by
  obtain ⟨releases, counters, heq⟩ := s.queueRelease_eq p reason
  rw [heq]
  generalize hu : State.bump _ k = u
  have hquiet : u.quietNow = false := State.quietNow_release (releases := releases) hq (by rw [← hu]; rfl) (by rw [← hu]; rfl) (by rw [← hu]; rfl)
  have hspent : u.withWake false = u := State.withWake_self (by rw [← hu]; exact hw)
  have hfull : u.holderFull := State.holderFull_congr hl (by rw [← hu]; rfl)
  have hnone : u.noneToAdmit := State.noneToAdmit_congr hn (by rw [← hu]; rfl) (by rw [← hu]; rfl)
  cases woken
  · exact (State.settle_noneToAdmit hfull hnone hquiet).trans hspent
  · exact (State.settle_noneToAdmit (s := u.wakeUp) hfull hnone hquiet).trans hspent

/-- Settles O15: the three cases in the search order of R82. -/
theorem grantAnswered : Obligations.GrantAnswered := by
  intro f sender ticket s hacc hread hfull hnone hquiet p a released
  rw [exec_grant_here hacc hread]
  refine ⟨fun c hclaim hid => ?_, fun hclaim hm => ?_, fun hclaim hm => ?_⟩
  · rw [State.grantedHere_orphan (s := a) hclaim hid]
    exact congrArg Host.Outcome.next
      (State.settle_releaseQueued (s := a.removeClaim p) hfull hnone hquiet rfl p .abort .abortedClaimGrants true)
  · rw [State.grantedHere_duplicate (s := a) hclaim hm]
    exact congrArg Host.Outcome.next (State.settle_unwoken (s := a.bump .duplicateGrants) hfull rfl hquiet)
  · rw [State.grantedHere_late (s := a) hclaim hm]
    exact congrArg Host.Outcome.next (State.settle_releaseQueued (s := a) hfull hnone hquiet rfl p .late .lateGrants false)

end Sys2Proof.Machine

/-! ## The end of a claim without placement (R87 to R91, R102, R103) -/

namespace Sys2Proof.Machine

section
variable {s : State} {f : Frame} {sender other : Station} {ticket : Word32}

theorem exec_grant_elsewhere (hacc : s.accepts 0x23#8 f sender) (hread : readGrant f sender = some (ticket, other))
    (hother : other ≠ s.lif.station) :
    exec (.grant f) s = .next ((s.begin.bump .framesAccepted).grantedElsewhere ⟨sender, ticket⟩).settle :=
  congrArg Host.Outcome.next ((State.receive_accepted _ _ (State.accepts_begin hacc) hread).trans
    (congrArg State.settle (if_neg hother)))

theorem exec_withdraw_frame (hacc : s.accepts 0x22#8 f sender) (hread : readWithdraw f sender = some ticket) :
    exec (.withdraw f) s = .next ((s.begin.bump .framesAccepted).withdrawArrives ⟨sender, ticket⟩).settle :=
  congrArg Host.Outcome.next (State.receive_accepted _ _ (State.accepts_begin hacc) hread)

end

section
variable {s : State} {c : Claim} {p : FilePair}

/-- What the end of a claim leaves ahead of its wake-up, for an orphan or a claim bound to an OPEN pack (R91, R103). -/
def State.unclaimed (s : State) (c : Claim) (k : Ctr) : State :=
  if c.slot = none then (s.removeClaim c.file.pair).bump k else ((s.removeClaim c.file.pair).bump k).recomputePromised

theorem State.unclaimed_frame (s : State) (c : Claim) (k : Ctr) : (s.unclaimed c k).lif = s.lif ∧ (s.unclaimed c k).oft = s.oft ∧
    (s.unclaimed c k).mgt = s.mgt ∧ (s.unclaimed c k).pkb = s.pkb ∧ (s.unclaimed c k).aru = s.aru ∧
    (s.unclaimed c k).wake = s.wake := by
  unfold State.unclaimed
  split <;> exact ⟨rfl, rfl, rfl, rfl, rfl, rfl⟩

/-- An OPEN pack is told of the end of a claim and computes the promised count again (R103, R104). -/
theorem State.claimEnded_opened {id : SlotId} (h : (s.slot id).state = .opened) : s.claimEnded id = s.recomputePromised := by
  have hclose : s.recomputePromised.testClose id = s.recomputePromised :=
    State.testClose_of_ne_closing (by rw [State.recomputePromised_slot, h]; decide)
  simp [State.claimEnded, h, hclose]

theorem State.endClaim_eq (hopen : ∀ id, c.slot = some id → (s.slot id).state = .opened) (k : Ctr) :
    s.endClaim c k = (s.unclaimed c k).wakeUp := by
  unfold State.endClaim State.unclaimed
  cases hid : c.slot with
  | none => rfl
  | some id =>
    dsimp only
    rw [State.claimEnded_opened (s := (s.removeClaim c.file.pair).bump k) (hopen id hid)]
    rfl

theorem State.endClaimOf_some (h : s.claim? p = some c) (k : Ctr) : s.endClaimOf p k = s.endClaim c k := by
  simp only [State.endClaimOf, h]

theorem State.refusedHere_pending (h : s.claim? p = some c) (reason : RefuseReason) :
    s.refusedHere p reason = s.endClaim c reason.counter := by
  simp only [State.refusedHere, h]

theorem State.removeCandidate_absent (h : s.candidate? p = none) (k : Ctr) : s.removeCandidate p k = s :=
  if_neg (by rw [h]; exact nofun)

/-- A pair that is no candidate here loses only its claim to another station's GRANT (R87). -/
theorem State.grantedElsewhere_pending (hlist : s.candidate? p = none) (h : s.claim? p = some c) :
    s.grantedElsewhere p = s.endClaim c .claimsLost := by
  rw [State.grantedElsewhere, State.removeCandidate_absent hlist, State.endClaimOf_some h]

/-- Which member of a pair is live is read from the slots (R42). -/
theorem State.liveMember_congr {t : State} (h : t.pkb = s.pkb) (p : FilePair) : t.liveMember p = s.liveMember p := by
  unfold State.liveMember
  simp only [State.slot_of_pkb h]

/-- A pair that is neither candidate nor live member here loses only its claim to a WITHDRAW (R89). -/
theorem State.withdrawArrives_pending (hlist : s.candidate? p = none) (hm : s.liveMember p = none) (h : s.claim? p = some c)
    (hopen : ∀ id, c.slot = some id → (s.slot id).state = .opened) : s.withdrawArrives p = s.endClaim c .claimsWithdrawn := by
  rw [State.withdrawArrives, State.removeCandidate_absent hlist, State.endClaimOf_some h, State.endClaim_eq hopen]
  refine State.withdrawnMember_none ((State.liveMember_congr ?_ p).trans hm)
  exact (s.unclaimed_frame c .claimsWithdrawn).2.2.2.1

theorem State.claimDeadline_sent {d : Nat} (h : s.claim? p = some c) (hd : c.phase = .sent d) : s.claimDeadline p = some d := by
  simp only [State.claimDeadline, h, hd]

/-- The expiry of a SENT claim is judged by its deadline (R90, log entry 23). -/
theorem State.claimTimer_sent {d now : Nat} (h : s.claim? p = some c) (hd : c.phase = .sent d) (hn : s.mgt.clock = some now) :
    s.claimTimer p = if d ≤ now then (s.endClaim c .claimTimeouts).settle else s := by
  rw [State.claimTimer, State.claimDeadline_sent h hd, State.due_some hn, State.endClaimOf_some h]
  simp only [decide_eq_true_eq]

/-- Where no round admits, the wake-up of a claim's end is spent in its step (R75, R91). -/
theorem State.settle_endClaim (hopen : ∀ id, c.slot = some id → (s.slot id).state = .opened) (hl : s.holderFull) (hn : s.noneToAdmit)
    (hq : s.quietNow = false) (hw : s.wake = false) (k : Ctr) : (s.endClaim c k).settle = s.unclaimed c k := by
  obtain ⟨hlif, hoft, hmgt, hpkb, haru, hwake⟩ := s.unclaimed_frame c k
  rw [State.endClaim_eq hopen]
  refine (State.settle_noneToAdmit (s := (s.unclaimed c k).wakeUp) (State.holderFull_congr hl hlif)
    (State.noneToAdmit_congr hn hmgt hoft) ((State.quietNow_congr hmgt hpkb haru).trans hq)).trans ?_
  exact State.withWake_self (hwake.trans hw)

/-- What the end of its one claim leaves of a FORMING slot with nothing placed, ahead of the wake-up (R102, R103). -/
def State.unformed (s : State) (id : SlotId) (k : Ctr) : State :=
  State.bump (State.bump (((s.setSlot id {}).withSel { s.sel with claims := [] }).withSpl { s.spl with promised := 0 }) k) .formsAbandoned

theorem State.unformed_frame (s : State) (id : SlotId) (k : Ctr) : (s.unformed id k).lif = s.lif ∧ (s.unformed id k).oft = s.oft ∧
    (s.unformed id k).mgt = s.mgt ∧ (s.unformed id k).wake = s.wake := by
  simp [State.unformed]

theorem State.endClaim_forming {id : SlotId} (hclaims : s.sel.claims = [c]) (hid : c.slot = some id) (hf : (s.slot id).state = .forming)
    (hm : (s.slot id).members = []) (hother : (s.slot id.other).state.accepting = false) (k : Ctr) :
    s.endClaim c k = (s.unformed id k).wakeUp := by
  have hgone : s.removeClaim c.file.pair = s.withSel { s.sel with claims := [] } := by
    simp [State.removeClaim, dropClaim, hclaims]
  have hnone : (((((s.withSel { s.sel with claims := [] }).bump k).setSlot id {}).wakeUp).bump .formsAbandoned).accepting = none := by
    refine State.accepting_eq_none (id := id) ?_ ?_
    · rw [State.bump_slot, State.wakeUp_slot, State.setSlot_slot]
      rfl
    · rw [State.bump_slot, State.wakeUp_slot, State.setSlot_slot_other]
      exact hother
  have hfirst : (((s.withSel { s.sel with claims := [] }).bump k).slot id).state = .forming := hf
  have hmembers : (((s.withSel { s.sel with claims := [] }).bump k).slot id).members = [] := hm
  have hunbound : ((s.withSel { s.sel with claims := [] }).bump k).boundClaims id = [] := rfl
  unfold State.endClaim State.claimEnded State.abandonForm State.clearSlot
  rw [hgone, hid]
  dsimp only
  rw [hfirst, hmembers, hunbound, if_pos (by decide), State.recomputePromised_of_none hnone, State.testClose_of_ne_closing]
  · cases id <;> rfl
  · cases id <;> exact nofun

end

/-- Settles O16: each of the four endings comes down to the end of the claim, whose wake-up admits nothing. -/
theorem claimEnds : Obligations.ClaimEnds := by
  refine ⟨?_, ?_⟩
  · intro f sender other ticket reason c s p hclaim hopen hlist hmember hfull hnone hquiet ended a
    obtain ⟨-, hpair⟩ := State.claim_pair hclaim
    have hended (u : State) (k : Ctr) (hsel : u.sel = s.sel) : u.unclaimed c k = ended u k := by
      unfold State.unclaimed State.removeClaim
      rw [hpair, hsel]
      rfl
    have hsettle (k : Ctr) : (a.endClaim c k).settle = ended a k :=
      (State.settle_endClaim (s := a) hopen hfull hnone hquiet rfl k).trans (hended a k rfl)
    refine ⟨fun hacc hread hother => ?_, fun hacc hread => ?_, fun hacc hread => ?_, fun now d hd hn => ?_⟩
    · rw [exec_grant_elsewhere hacc hread hother, State.grantedElsewhere_pending (s := a) hlist hclaim, hsettle]
    · rw [exec_refuse_here hacc hread, State.refusedHere_pending (s := a) hclaim, hsettle]
      cases reason <;> rfl
    · rw [exec_withdraw_frame hacc hread, State.withdrawArrives_pending (s := a) hlist hmember hclaim hopen, hsettle]
    · have hexec : exec (.claimTimeout sender ticket) s = .next (s.begin.claimTimer p) := rfl
      rw [hexec, State.claimTimer_sent (s := s.begin) hclaim hd hn]
      refine ⟨fun hdue => ?_, fun hearly => ?_⟩
      · rw [if_pos hdue, State.settle_endClaim (s := s.begin) hopen hfull hnone hquiet rfl, hended s.begin .claimTimeouts rfl]
      · rw [if_neg (by omega)]
  · intro sender ticket c id d now s hclaims hpair hid hd hn hdue hf hm hman hother hfull hnone hrun
    have hclaim : s.claim? ⟨sender, ticket⟩ = some c := by simp [State.claim?, hclaims, hpair]
    have hexec : exec (.claimTimeout sender ticket) s = .next (s.begin.claimTimer ⟨sender, ticket⟩) := rfl
    rw [hexec, State.claimTimer_sent (s := s.begin) hclaim hd hn, if_pos hdue,
      State.endClaim_forming (s := s.begin) hclaims hid hf hm hother]
    obtain ⟨hlif, hoft, hmgt, hwake⟩ := s.begin.unformed_frame id .claimTimeouts
    refine congrArg Host.Outcome.next ((State.settle_noneToAdmit (s := (s.begin.unformed id .claimTimeouts).wakeUp)
      (State.holderFull_congr hfull hlif) (State.noneToAdmit_congr hnone hmgt hoft)
      (State.quietNow_unfinished fun k => absurd ((congrArg Mgt.run hmgt).symm.trans k) hrun)).trans ?_)
    refine (State.withWake_self (s := s.begin.unformed id .claimTimeouts) hwake).trans ?_
    cases id <;> rfl

end Sys2Proof.Machine

/-! ## A selection round (R75, R76, R78, R79, R101, R102, R108) -/

namespace Sys2Proof.Machine

/-! ### The choice of a round (R78) -/

theorem State.best_eq_none_iff (s : State) (list : List Candidate) : s.best list = none ↔ ∀ c ∈ list, s.score? c = none := by
  induction list with
  | nil => simp [State.best]
  | cons c list ih =>
    rw [State.best, List.forall_mem_cons, ← ih]
    cases s.score? c with
    | none => simp
    | some n =>
      cases s.best list with
      | none => simp
      | some b => by_cases h : n < b.2 <;> simp [h]

/-- The chosen candidate stands behind lower scores and ahead of none that is higher (R78). -/
theorem State.best_split {s : State} {list : List Candidate} {c : Candidate} {n : Nat} (h : s.best list = some (c, n)) :
    ∃ front back, list = front ++ c :: back ∧ s.score? c = some n ∧
      (∀ d ∈ front, ∀ m, s.score? d = some m → m < n) ∧ (∀ d ∈ back, ∀ m, s.score? d = some m → m ≤ n) := by
  induction list generalizing c n with
  | nil => cases h
  | cons d list ih =>
    rw [State.best] at h
    cases hd : s.score? d with
    | none =>
      simp only [hd] at h
      obtain ⟨front, back, rfl, hc, hfront, hback⟩ := ih h
      exact ⟨d :: front, back, rfl, hc, List.forall_mem_cons.2 ⟨fun m k => (nomatch hd.symm.trans k), hfront⟩, hback⟩
    | some i =>
      cases hbest : s.best list with
      | none =>
        simp only [hd, hbest, Option.some.injEq, Prod.mk.injEq] at h
        obtain ⟨rfl, rfl⟩ := h
        have hnone := (s.best_eq_none_iff list).1 hbest
        exact ⟨[], list, rfl, hd, nofun, fun e he m k => (nomatch (hnone e he).symm.trans k)⟩
      | some b =>
        obtain ⟨b, i'⟩ := b
        simp only [hd, hbest] at h
        obtain ⟨front, back, hlist, hb, hfront, hback⟩ := ih hbest
        split at h
        · obtain ⟨rfl, rfl⟩ : b = c ∧ i' = n := by simpa using h
          refine ⟨d :: front, back, by rw [hlist]; rfl, hb, List.forall_mem_cons.2 ⟨fun m k => ?_, hfront⟩, hback⟩
          obtain rfl := Option.some.inj (hd.symm.trans k)
          assumption
        · obtain ⟨rfl, rfl⟩ : d = c ∧ i = n := by simpa using h
          refine ⟨[], list, rfl, hd, nofun, fun e he m k => ?_⟩
          rw [hlist, List.mem_append, List.mem_cons] at he
          obtain he | rfl | he := he
          · have := hfront e he m k
            omega
          · obtain rfl := Option.some.inj (hb.symm.trans k)
            omega
          · have := hback e he m k
            omega

/-! ### When a round is run, and what it does -/

theorem Claim.isWaiting_iff (c : Claim) : c.isWaiting = true ↔ c.phase = .waiting := by
  cases h : c.phase <;> simp [Claim.isWaiting, h]

section
variable {s : State} {c : Candidate} {n : Nat} {key : Word64} {id : SlotId}

/-- A round is run in RUN, with no claim WAITING, fewer claims than the pending maximum and a place for one more (R75). -/
theorem State.roundRuns_iff (s : State) : s.roundRuns = true ↔
    s.mgt.run = .run ∧ (∀ d ∈ s.sel.claims, d.phase ≠ .waiting) ∧ s.sel.claims.length < s.mgt.config.pendingMax ∧
      ((∃ id, s.accepting = some id ∧ ((s.slot id).state = .forming ∨ (s.slot id).state = .opened)) ∨
        (s.accepting = none ∧ s.canForm = true)) := by
  unfold State.roundRuns
  cases s.accepting <;> simp [← Claim.isWaiting_iff, and_assoc]

theorem State.selectionRound_unchosen (h : s.best s.oft.candidates = none) : s.selectionRound = s := by
  unfold State.selectionRound
  rw [h]
  exact ite_self s

theorem State.selectionRound_floor (h : s.best s.oft.candidates = some (c, n)) (hf : n < s.mgt.config.admitFloor) :
    s.selectionRound = s := by
  unfold State.selectionRound
  simp only [h, if_neg (Nat.not_le.2 hf), ite_self]

theorem State.selectionRound_admits (hr : s.roundRuns = true) (h : s.best s.oft.candidates = some (c, n))
    (hf : s.mgt.config.admitFloor ≤ n) : s.selectionRound = s.admitCandidate c := by
  unfold State.selectionRound
  simp only [hr, h, if_true, if_pos hf]

/-! ### Admission (R79) -/

/-- A candidate moves to the pending claims, bound to a slot (R79). -/
def State.claimJoins (s : State) (c : Candidate) (key : Word64) (id : SlotId) : State :=
  (s.setCandidates (dropCandidate c.file.pair s.oft.candidates)).withSel
    { s.sel with claims := s.sel.claims ++ [⟨c.file, key, some id, .waiting⟩] }

/-- With an accepting pack the claim is bound to it (R79). -/
theorem State.admitCandidate_joins (hacc : s.accepting = some id) (hk : c.key = some key) :
    s.admitCandidate c = (s.claimJoins c key id).claimAdmitted id := by
  unfold State.admitCandidate
  rw [hacc, hk]
  rfl

/-- The slot a pack forms in is FREE (R101). -/
theorem State.formingSlot_free (h : s.canForm = true) : (s.slot s.formingSlot).state = .free := by
  have hfree : s.pkb.slotA.state = .free ∨ s.pkb.slotB.state = .free := by
    simp only [State.canForm, Bool.and_eq_true, Bool.or_eq_true, decide_eq_true_eq] at h
    exact h.1.1.1
  unfold State.formingSlot
  split
  · assumption
  · exact hfree.resolve_left ‹_›

/-- The record of a slot that forms (R102). -/
def State.formedSlot (s : State) (key : Word64) : Slot :=
  { state := .forming, seq := s.pkb.nextSeq, tentativeKey := some key, limit := s.mgt.config.packLimit, commitPoint := some 0 }

theorem State.recomputePromised_of_some (hacc : s.accepting = some id) :
    s.recomputePromised = s.withSpl { s.spl with promised := demand (s.slot id).taken (s.roomOf id).committed } := by
  unfold State.recomputePromised
  rw [hacc]
  rfl

/-- The claim just bound keeps the slot from meeting the close condition (R111). -/
theorem State.claimJoins_closeReady (s : State) (c : Candidate) (key : Word64) (id : SlotId) :
    (s.claimJoins c key id).closeReady id = false :=
  State.closeReady_bound (c := ⟨c.file, key, some id, .waiting⟩) (List.mem_append_right _ (List.mem_singleton_self _)) rfl

/-- An admitted claim that leaves the margin, or whose slot is not OPEN, only moves the promised count (R103, R108). -/
theorem State.claimAdmitted_stays
    (h : (s.slot id).state ≠ .opened ∨ (s.roomOf id).committed + s.mgt.config.closeMargin ≤ capacity (s.slot id).limit) :
    s.claimAdmitted id = s.recomputePromised :=
  h.elim (fun hs => State.testMargin_unopened (s := s.recomputePromised) hs)
    fun hr => State.testMargin_of_room (s := s.recomputePromised) hr

/-- One that takes the margin of an OPEN pack closes it by room (R108). -/
theorem State.claimAdmitted_closes (ho : (s.slot id).state = .opened) (hready : s.closeReady id = false)
    (hroom : capacity (s.slot id).limit < (s.roomOf id).committed + s.mgt.config.closeMargin) :
    s.claimAdmitted id = s.recomputePromised.closing id .room :=
  (if_pos hroom).trans (State.closeFor_stays (s := s.recomputePromised) ho hready .room)

/-- A pack formed in a slot for the claim of a candidate, with the promised count that covers it (R79, R102, R104). -/
def State.formsFor (s : State) (c : Candidate) (key : Word64) (id : SlotId) : State :=
  let u := (s.setSlot id (s.formedSlot key)).claimJoins c key id
  u.withSpl { s.spl with promised := demand 0 (u.roomOf id).committed }

/-- With no accepting pack one forms for the claim (R79, R101). -/
theorem State.admitCandidate_forms (hacc : s.accepting = none) (hform : s.canForm = true) (hk : c.key = some key) :
    s.admitCandidate c = s.formsFor c key s.formingSlot := by
  have hformed : s.formSlot s.formingSlot (some key) = s.setSlot s.formingSlot (s.formedSlot key) :=
    if_pos ⟨hform, State.formingSlot_free hform⟩
  have hadmit : s.admitCandidate c =
      ((s.setSlot s.formingSlot (s.formedSlot key)).claimJoins c key s.formingSlot).claimAdmitted s.formingSlot := by
    unfold State.admitCandidate
    rw [hacc, hk]
    dsimp only [Option.getD, Option.isNone, if_true]
    rw [hformed]
    rfl
  have hother : (s.slot s.formingSlot.other).state.accepting = false := State.not_accepting_of_canForm hform _
  rw [hadmit]
  generalize s.formingSlot = id at *
  have hslot : ((s.setSlot id (s.formedSlot key)).claimJoins c key id).slot id = s.formedSlot key := s.setSlot_slot id _
  have hbeside : ((s.setSlot id (s.formedSlot key)).claimJoins c key id).slot id.other = s.slot id.other := s.setSlot_slot_other id _
  rw [State.claimAdmitted_stays (.inl (by rw [hslot]; nofun)), State.recomputePromised_of_some (id := id), hslot]
  · rw [show ((s.setSlot id (s.formedSlot key)).claimJoins c key id).spl = s.spl from s.setSlot_spl id _]
    rfl
  · exact State.accepting_eq_some (by rw [hslot]; rfl) (by rw [hbeside]; exact hother)

end

/-- Settles O19: the choice by the recursion of the list, the admission by whether there is an accepting pack. -/
theorem roundTakesBest : Obligations.RoundTakesBest := by
  intro s best runs
  refine ⟨s.best_eq_none_iff, fun list c n => State.best_split, fun h => ?_, ?_⟩
  · obtain hruns | hnone | ⟨c, n, hbest, hfloor⟩ := h
    · exact State.selectionRound_held (Bool.eq_false_iff.2 (mt s.roundRuns_iff.1 hruns))
    · exact State.selectionRound_unchosen hnone
    · exact State.selectionRound_floor hbest hfloor
  · intro c n key hruns hbest hfloor hk joined
    have hround := State.selectionRound_admits (s.roundRuns_iff.2 hruns) hbest hfloor
    constructor
    · intro id hacc x u committed
      have hjoins : (s.claimJoins c key id).recomputePromised = u :=
        State.recomputePromised_of_some (s := s.claimJoins c key id) hacc
      rw [State.admitCandidate_joins hacc hk] at hround
      refine ⟨fun h => ?_, fun ho hroom => ?_⟩
      · rw [hround, State.claimAdmitted_stays, hjoins]
        exact h.imp_left fun hf ho => absurd (hf.symm.trans ho) (by decide)
      · rw [hround, State.claimAdmitted_closes (s := s.claimJoins c key id) ho (s.claimJoins_closeReady c key id) hroom, hjoins]
        refine (State.closing_sending (s := u) (id := id) (.inl hruns.1) .room).trans ?_
        cases id <;> rfl
    · intro hacc id x
      have hform : s.canForm = true := hruns.2.2.2.elim (fun ⟨_, k, _⟩ => (nomatch hacc.symm.trans k)) And.right
      rw [hround, State.admitCandidate_forms hacc hform hk]
      show s.formsFor c key id = _
      cases id <;> rfl

end Sys2Proof.Machine

/-! ## An OFFER that is admitted at once (R44, R75 to R79, R101, R102) -/

namespace Sys2Proof.Machine

section
variable {s : State} {x : FileInfo} {key : Word64}

/-- A key that no entry of the beacon table has is not held elsewhere (R62). -/
theorem State.heldElsewhere_unlisted (h : ∀ y ∈ s.pvw.table, y.key ≠ key) : s.heldElsewhere key = false := by
  refine List.any_eq_false.2 fun y hy => ?_
  have hkey := h y hy
  unfold State.heldKey
  split <;> simp [hkey]

/-- A file of the largest size fits a pack of the least limit as its first member (R3, R5, R8). -/
theorem Room.fits_empty {r : Room} {limit : Nat} (he : r.e = 0) (hq : r.q = 0) (hm : r.m = 0) (hk : r.k = 0) (hu : r.u = capacity limit)
    (hlimit : 32 ≤ limit) {size : Nat} (hsize : size ≤ 16777216) : r.fits (footprintOf size) = true := by
  simp only [Room.fits, he, hq, hm, hk, hu, capacity, footprintOf, mc, Bool.and_eq_true, decide_eq_true_eq]
  omega

/-- The score of a file heard at this reading, with no accepting pack (R76, R77). -/
theorem State.score?_fresh {now : Nat} (hn : s.mgt.clock = some now) (hacc : s.accepting = none) (hheld : s.heldElsewhere key = false)
    (hlimit : 32 ≤ s.mgt.config.packLimit) (hsize : x.size ≤ 16777216)
    (hfree : seg (footprintOf x.size + 1) + 1 ≤ s.bufferCount .free) :
    s.score? ⟨x, some key, some now, none⟩ = some (320 + 96 * min x.cls 3) := by
  have hroom : s.roundRoom = s.emptyRoom := by simp only [State.roundRoom, hacc]
  have hage : s.ageOf ⟨x, some key, some now, none⟩ = 0 := by simp [State.ageOf, State.now, hn]
  have hdemand : s.emptyRoom.demandWith (footprintOf x.size) = seg (footprintOf x.size + 1) + 1 := by
    simp [State.emptyRoom, Room.demandWith, demand, mc]
  have heligible : s.eligible ⟨x, some key, some now, none⟩ = some 320 := by
    refine (s.eligible_eq_some_iff _ _).2 ⟨(State.affinity_of_none rfl hacc 320).2 ⟨rfl, hheld⟩, rfl, ?_, ?_⟩
    · rw [hroom]
      exact Room.fits_empty rfl rfl rfl rfl rfl hlimit hsize
    · rw [hroom, hdemand]
      exact hfree
  exact (s.score?_eq_some_iff _ _).2 ⟨320, heligible, by rw [hage]; rfl⟩

/-- The one candidate is the choice when it is eligible (R78). -/
theorem State.best_singleton {c : Candidate} {n : Nat} (h : s.score? c = some n) : s.best [c] = some (c, n) := by
  simp only [State.best, h]

/-- What the admission of the one candidate leaves as the one claim (R79, R102). -/
theorem State.formsFor_alone {c : Candidate} (hlist : s.oft.candidates = [c]) (hclaims : s.sel.claims = []) (id : SlotId) :
    s.formsFor c key id = (((s.setSlot id (s.formedSlot key)).withOft ⟨[]⟩).withSel
      { s.sel with claims := [⟨c.file, key, some id, .waiting⟩] }).withSpl
        { s.spl with promised := seg (footprintOf c.file.size + 1) + 1 } := by
  have hdrop : dropCandidate c.file.pair s.oft.candidates = [] := by simp [dropCandidate, hlist]
  have hjoins : (s.setSlot id (s.formedSlot key)).claimJoins c key id = ((s.setSlot id (s.formedSlot key)).withOft ⟨[]⟩).withSel
      { s.sel with claims := [⟨c.file, key, some id, .waiting⟩] } := by
    unfold State.claimJoins State.setCandidates
    rw [State.setSlot_oft, State.setSlot_sel, hdrop, hclaims]
    rfl
  have hcommitted : demand 0 ((((s.setSlot id (s.formedSlot key)).withOft ⟨[]⟩).withSel
      { s.sel with claims := [⟨c.file, key, some id, .waiting⟩] }).roomOf id).committed = seg (footprintOf c.file.size + 1) + 1 := by
    simp [State.roomOf, State.boundClaims, Room.committed, State.formedSlot, demand, mc]
  unfold State.formsFor
  rw [hjoins]
  dsimp only
  rw [hcommitted]

end

/-- Settles O17: the offered file is the one candidate, and the wake-up of its listing runs the round that admits it. -/
theorem offerAdmitted : Obligations.OfferAdmitted := by
  intro f sender x now s hacc hread hfull hrun hfrozen hn hlist hclaims hmax hnone hform hlive hsize hlimit key need hheld hfree hfloor id
  have hunheld : s.heldHere x.pair = false := by simp [State.heldHere, State.claim?, hclaims, hlive]
  let c : Candidate := ⟨x, some key, some now, none⟩
  let u := (s.begin.bump .framesAccepted).setCandidates [c]
  have hadd : (s.begin.bump .framesAccepted).offerArrives x = u.wakeUp := by
    have hkey : (s.begin.bump .framesAccepted).keyNow x.tag = some key := if_pos hfrozen
    have hclock : (s.begin.bump .framesAccepted).mgt.clock = some now := hn
    have hempty : (s.begin.bump .framesAccepted).oft.candidates = [] := hlist
    rw [State.offerArrives_room (s := s.begin.bump .framesAccepted) hunheld hsize (by rw [hempty]; simp) (by rw [hempty]; decide)]
    unfold State.addCandidate
    rw [hkey, hclock, hempty]
    exact if_pos hfrozen
  have hscore : u.best [c] = some (c, 320 + 96 * min x.cls 3) :=
    State.best_singleton (State.score?_fresh (s := u) hn hnone (State.heldElsewhere_unlisted hheld) hlimit hsize hfree)
  have hruns : u.roundRuns = true :=
    u.roundRuns_iff.2 ⟨hrun, by show ∀ d ∈ s.sel.claims, _; rw [hclaims]; exact nofun,
      by show s.sel.claims.length < _; rw [hclaims]; exact hmax, .inr ⟨hnone, hform⟩⟩
  have hround : u.selectionRound = u.formsFor c key id :=
    (State.selectionRound_admits hruns hscore hfloor).trans (State.admitCandidate_forms hnone hform rfl)
  rw [exec_offer hacc hread, hadd, State.settle_round (s := u.wakeUp) hfull rfl hrun]
  refine congrArg Host.Outcome.next (hround.trans ((State.formsFor_alone (s := u) rfl hclaims id).trans ?_))
  have hoft : s.oft = ⟨[]⟩ := congrArg Oft.mk hlist
  rw [← hoft]
  cases id <;> rfl

end Sys2Proof.Machine

/-! ## A placement that opens its pack and starts its fetch (R105, R107, R125) -/

namespace Sys2Proof.Machine

section
variable {s t : State} {id : SlotId}

/-! ### A FREE fetch slot takes the one member that waits (R125) -/

theorem State.takeFetchesN_empty (h : s.fen.queue = []) (n : Nat) : s.takeFetchesN n = s := by
  cases n with
  | zero => rfl
  | succ n => cases hi : s.freeFetchSlot <;> simp only [State.takeFetchesN, h, hi]

/-- The lowest-numbered fetch slot is taken first (R125). -/
theorem State.freeFetchSlot_first (h : s.fen.slots[(0 : Fin 4)] = none) (hone : 1 ≤ s.mgt.config.fetchSlots) :
    s.freeFetchSlot = some 0 := by
  have hzero : (decide ((0 : Fin 4).val < s.mgt.config.fetchSlots) && s.fen.slots[(0 : Fin 4)].isNone) = true := by
    rw [h, Bool.and_eq_true, decide_eq_true_eq]
    exact ⟨hone, rfl⟩
  exact List.find?_cons_of_pos hzero

/-- What a fetch slot holds as it takes a member (R124, R125). -/
def Member.fetch (m : Member) (r : MemberRef) : Fetch where
  member := r
  pair := m.file.pair
  size := m.file.size
  crc := m.file.crc
  headN := m.headN
  phase := .waiting
  received := 0
  running := crcInit

/-- The one member that waits is taken by the FREE fetch slot, and its FETCH item waits (R125, R126). -/
theorem State.takeFetches_one {r : MemberRef} {i : Fin 4} {m : Member} (hq : s.fen.queue = [r]) (hi : s.freeFetchSlot = some i)
    (hm : s.member? r = some m) : s.takeFetches =
      (s.setSlot r.slot { s.slot r.slot with
        members := (s.slot r.slot).members.modify r.index fun m => { m with state := .fetching } }).withFen
      { queue := [], slots := s.fen.slots.set i.val (some (m.fetch r)) i.isLt, items := s.fen.items ++ [i] } := by
  have hm' : (s.withFen { s.fen with queue := [] }).member? r = some m := hm
  have htake : (s.withFen { s.fen with queue := [] }).takeFetch i r m =
      (s.setSlot r.slot { s.slot r.slot with
        members := (s.slot r.slot).members.modify r.index fun m => { m with state := .fetching } }).withFen
      { queue := [], slots := s.fen.slots.set i.val (some (m.fetch r)) i.isLt, items := s.fen.items ++ [i] } := by
    obtain ⟨slot, index⟩ := r
    cases slot <;> rfl
  unfold State.takeFetches State.takeFetchesN
  simp only [hi, hq, hm', htake]
  exact State.takeFetchesN_empty rfl 3

/-! ### The opening of a pack leaves the fetch engine alone (R107) -/

theorem State.opensPack_withFen (hs : s.mgt.run = .run ∨ s.mgt.run = .quiescing) (x : Fen) (key : Word64) :
    (s.withFen x).opensPack id key = (s.opensPack id key).withFen x := by
  rw [State.opensPack_sending (t := s.withFen x) hs, State.opensPack_sending hs]
  cases id <;> rfl

/-- A pack that opens in RUN with no entry of its key in the beacon table stays OPEN (R67, R68). -/
theorem State.openPack_silent {key key' : Word64} (hrun : (s.opensPack id key).mgt.run = .run)
    (hkey : ((s.opensPack id key).slot id).primaryKey = some key') (h : ∀ y ∈ (s.opensPack id key).pvw.table, y.key ≠ key') :
    s.openPack id key = s.opensPack id key := by
  rw [State.openPack_eq, if_neg (by rw [hrun]; decide)]
  refine State.yieldCheck_silent fun _ k hk y hy hcalls => ?_
  obtain rfl := Option.some.inj (hkey.symm.trans hk)
  exact h y (List.mem_filter.1 hy).1 ((State.callsForYield_iff _ _ _ _).1 hcalls).1

/-- A placed member with data waits for a fetch, and the FREE fetch slots take what waits (R105, step 6; R125). -/
theorem State.queueFetch_placed {file : FileInfo} {key : Word64} (hsize : 0 < file.size) :
    (s.extended id file key).queueFetch ⟨id, (s.slot id).members.length⟩ = (s.placed id file key).takeFetches := by
  obtain ⟨-, -, -, hfen, -⟩ := s.extended_others id file key
  unfold State.queueFetch State.placed
  rw [hfen, if_neg (Nat.ne_of_gt hsize)]

/-- The first placement of a pack that stays OPEN, its one member not settled, its room above the margin and its segment open (R105, R107). -/
theorem State.place_opens {file : FileInfo} {key : Word64} (hsize : 0 < file.size)
    (hf : ((s.placed id file key).takeFetches.slot id).state = .forming)
    (hopens : (s.placed id file key).takeFetches.openPack id key = t) (ho : (t.slot id).state = .opened)
    (hroom : (t.roomOf id).committed + t.mgt.config.closeMargin ≤ capacity (t.slot id).limit)
    (hlimit : (t.slot id).members.length ≠ 4096) (hopen : (t.slot id).segmentOpen) :
    s.place id file key false = t.recomputePromised.wakeUp := by
  have hmargin : t.recomputePromised.testMargin id = t.recomputePromised := State.testMargin_of_room (s := t.recomputePromised) hroom
  have hmembers : t.recomputePromised.testMemberLimit id = t.recomputePromised :=
    State.testMemberLimit_of_ne (s := t.recomputePromised) hlimit
  have hclose : t.recomputePromised.testClose id = t.recomputePromised :=
    State.testClose_of_ne_closing (by rw [State.recomputePromised_slot, ho]; decide)
  have hcommit : t.recomputePromised.testCommit id = t.recomputePromised :=
    State.commitRun_of_none (State.committable_of_segmentOpen (s := t.recomputePromised) hopen) 64
  rw [State.place_eq, if_pos (by simp [Nat.ne_of_gt hsize]), State.queueFetch_placed hsize]
  dsimp only
  rw [if_pos hf, hopens, hmargin, hmembers, hclose, hcommit]

/-- The slot of a placement may be written over (R105). -/
theorem State.Placing.setSlot {c : Claim} {y : Slot} {n : Word32} {p : Pvw} {raised : List Ctr}
    (h : State.Placing id c y n p raised s t) (y' : Slot) : State.Placing id c y' n p raised s (t.setSlot id y') where
  slot := State.setSlot_slot ..
  other := (State.setSlot_slot_other ..).trans h.other
  nextSeq := (State.setSlot_nextSeq ..).trans h.nextSeq
  pvw := (State.setSlot_pvw ..).trans h.pvw
  sel := (State.setSlot_sel ..).trans h.sel
  fen := (State.setSlot_fen ..).trans h.fen
  takes := State.takesBuffers_congr (fun _ => rfl) (State.buffer_congr (State.setSlot_spl ..)) h.takes
  counters := (State.setSlot_counters ..).trans h.counters
  lif := (State.setSlot_lif ..).trans h.lif
  oft := (State.setSlot_oft ..).trans h.oft
  drn := (State.setSlot_drn ..).trans h.drn
  aru := (State.setSlot_aru ..).trans h.aru
  mgt := (State.setSlot_mgt ..).trans h.mgt
  mem := (State.setSlot_mem ..).trans h.mem
  wake := (State.setSlot_wake ..).trans h.wake

/-- A slot whose one member has been taken up (R125). -/
def Slot.fetching (y : Slot) (m : Member) : Slot := { y with members := [{ m with state := .fetching }] }

/-- The fetch engine with a fetch just taken by slot 0 and nothing queued (R125, R126). -/
def Fen.firstTaken (x : Fen) (r : Fetch) : Fen := { queue := [], slots := x.slots.set 0 (some r), items := x.items ++ [0] }

theorem Fen.firstTaken_slots (x : Fen) (r : Fetch) (i : Fin 4) : (x.firstTaken r).slots[i] = if i = 0 then some r else x.slots[i] := by
  have h : (0 = i.val) = (i = 0) := propext ⟨fun h => Fin.ext h.symm, fun h => (congrArg Fin.val h).symm⟩
  simp only [Fen.firstTaken, Fin.getElem_fin, Vector.getElem_set, h]

section
variable {c : Claim} {y : Slot} {n : Word32} {p : Pvw} {raised : List Ctr} {m : Member} (h : State.Placing id c y n p raised s t)
  (hm : y.members = [m]) (hfirst : (s.slot id).members = []) (hqueue : s.fen.queue = []) (hslot : s.fen.slots[(0 : Fin 4)] = none)
  (hone : 1 ≤ s.mgt.config.fetchSlots)
include h hm hfirst hqueue hslot hone

/-- The member just placed, the one that waits, is taken by fetch slot 0 (R125). -/
theorem State.Placing.taken : t.takeFetches = (t.setSlot id (y.fetching m)).withFen (s.fen.firstTaken (m.fetch ⟨id, 0⟩)) := by
  have hfen := h.fen
  rw [hqueue, hfirst] at hfen
  have hwaits : t.member? ⟨id, 0⟩ = some m := by
    rw [State.member?, h.slot, hm]
    rfl
  rw [State.takeFetches_one (by rw [hfen]; rfl) (State.freeFetchSlot_first (by rw [hfen]; exact hslot) (by rw [h.mgt]; exact hone)) hwaits,
    h.slot, hm, hfen]
  rfl

/-- The opening that follows, with no entry of the pack's key in the beacon table (R67, R107). -/
theorem State.Placing.taken_opens {key : Word64} (hrun : s.mgt.run = .run) (hpeers : ∀ z ∈ p.table, z.key ≠ y.tentativeKey.getD key) :
    t.takeFetches.openPack id key =
      ((t.setSlot id (y.fetching m)).opensPack id key).withFen (s.fen.firstTaken (m.fetch ⟨id, 0⟩)) := by
  have hset := h.setSlot (y.fetching m)
  have hopens := hset.opens (.inl hrun) key
  have hcommute := State.opensPack_withFen (id := id) (.inl ((congrArg Mgt.run hset.mgt).trans hrun))
    (s.fen.firstTaken (m.fetch ⟨id, 0⟩)) key
  rw [h.taken hm hfirst hqueue hslot hone, State.openPack_silent (key' := y.tentativeKey.getD key), hcommute]
  · rw [hcommute, State.withFen_mgt, hopens.mgt, hrun]
  · rw [hcommute, State.withFen_slot, hopens.slot]
    rfl
  · rw [hcommute, State.withFen_pvw, hopens.pvw]
    exact hpeers

end

/-- The step of a GRANT for a claim bound to a slot (R83). -/
theorem exec_grant_bound {f : Frame} {sender : Station} {ticket : Word32} {c : Claim} (hacc : s.accepts 0x23#8 f sender)
    (hread : readGrant f sender = some (ticket, s.lif.station)) (hclaim : s.claim? ⟨sender, ticket⟩ = some c) (hid : c.slot = some id) :
    exec (.grant f) s = .next ((s.claimGone c.file.pair).place id c.file c.key false).settle := by
  obtain ⟨-, hpair⟩ := State.claim_pair hclaim
  rw [exec_grant_here hacc hread, State.grantedHere_bound (s := s.begin.bump .framesAccepted) hclaim hid, hpair]
  rfl

/-- The claims that stay ask for no more room than those with the claim that leaves (R8). -/
theorem room_dropClaim_le (p : FilePair) (cs : List Claim) (id : SlotId) (m : Nat) :
    (((dropClaim p cs).filter fun d => d.slot = some id).map fun d => footprintOf d.file.size).sum +
        mc (m + ((dropClaim p cs).filter fun d => d.slot = some id).length) ≤
      ((cs.filter fun d => d.slot = some id).map fun d => footprintOf d.file.size).sum +
        mc (m + (cs.filter fun d => d.slot = some id).length) := by
  have hsub : ((dropClaim p cs).filter fun d => d.slot = some id).Sublist (cs.filter fun d => d.slot = some id) :=
    List.filter_sublist.filter _
  have hsum := (hsub.map fun d => footprintOf d.file.size).sum_le_sum fun _ _ => Nat.zero_le _
  have hlen := hsub.length_le
  unfold mc
  omega

/-- The slot of a FORMING pack after its first placement, where the extent ends in segment 0 (R105). -/
def State.firstSlot (s : State) (id : SlotId) (c : Claim) : Slot :=
  { s.slot id with
    e := footprintOf c.file.size, members := [newMember c.file c.key 0 false], taken := max (s.slot id).taken 1 }

theorem seg_footprint {c : Claim} (hfoot : footprintOf c.file.size < 2046) : seg (footprintOf c.file.size - 1) = 0 := by
  unfold seg
  omega

theorem State.placedSlot_first {c : Claim} (hmembers : (s.slot id).members = []) (he : (s.slot id).e = 0)
    (hfoot : footprintOf c.file.size < 2046) : s.placedSlot id c.file c.key = s.firstSlot id c := by
  unfold State.placedSlot
  rw [hmembers, he, Nat.zero_add, seg_footprint hfoot]
  rfl

end

/-- Settles O13: the placement of `claimGone_placed`, its member taken by the first fetch slot, then the opening. -/
theorem grantOpens : Obligations.GrantOpens := by
  intro f sender ticket c id s hacc hread hclaim hid hf hmembers he hpoint hman hother hrun hfull hlist hsize hfoot hqueue hslots hone hseq
    x key opening hpeers hroom
  obtain ⟨-, hpair⟩ := State.claim_pair hclaim
  have hplaced := s.claimGone_placed id hsize
  rw [State.placedSlot_first hmembers he hfoot] at hplaced
  have hopens := hplaced.taken_opens rfl hmembers hqueue (hslots 0) hone (key := c.key) hrun hpeers
  have htaken := hplaced.taken rfl hmembers hqueue (hslots 0) hone
  have hopened := (hplaced.setSlot ((s.firstSlot id c).fetching (newMember c.file c.key 0 false))).opens (.inl hrun) c.key
  have hplace := State.place_opens hsize (by rw [htaken]; exact (congrArg Slot.state (State.setSlot_slot ..)).trans hf) hopens
  have hexec := exec_grant_bound hacc hread hclaim hid
  generalize State.opensPack _ id c.key = u at *
  clear htaken hopens hplaced
  generalize hfen : s.fen.firstTaken ((newMember c.file c.key 0 false).fetch ⟨id, 0⟩) = fen at *
  have hslot : (u.withFen fen).slot id = s.openedSlot ((s.firstSlot id c).fetching (newMember c.file c.key 0 false)) s.pkb.nextSeq c.key :=
    hopened.slot
  have hmgt : (u.withFen fen).mgt = s.mgt := hopened.mgt
  have hcommitted : ((u.withFen fen).roomOf id).committed + s.mgt.config.closeMargin ≤ capacity x.limit := by
    have hle := room_dropClaim_le c.file.pair s.sel.claims id 1
    have hroomOf : ((u.withFen fen).roomOf id).committed = footprintOf c.file.size + _ + mc (1 + _) := hopened.committed
    omega
  have hopen : ((u.withFen fen).slot id).segmentOpen := by
    rw [hslot]
    refine ⟨hman, ?_⟩
    show ((s.slot id).commitPoint.all fun k => footprintOf c.file.size < 2047 * k + 2046) = true
    rw [hpoint]
    exact decide_eq_true hfoot
  have hsettle := State.settle_wakeUp (u := (u.withFen fen).recomputePromised) (id := id) (State.holderFull_congr hfull hopened.lif)
    (State.noneToAdmit_congr (.inr hlist) hopened.mgt hopened.oft) (by rw [State.recomputePromised_slot, hslot]; nofun) hopened.wake
  rw [hplace (by rw [hslot]; rfl) (by rw [hslot, hmgt]; exact hcommitted) (by rw [hslot]; exact nofun) hopen, hsettle] at hexec
  have htakes := hopened.takes
  rw [he, Nat.zero_add, seg_footprint hfoot] at htakes
  have hsel := hopened.sel
  rw [hpair] at hsel
  subst hfen
  refine ⟨_, hexec, ?_, hopened.other, hopened.nextSeq.trans (if_neg hseq), hopened.pvw, htakes, rfl, rfl, Fen.firstTaken_slots _ _ 0,
    fun i hi => ?_, hsel, ?_, hopened.lif, hopened.oft, hopened.drn, hopened.aru, hopened.mgt, hopened.mem⟩
  · refine hslot.trans ?_
    rw [Nat.mul_comm 1000]
    rfl
  · exact (Fen.firstTaken_slots _ _ i).trans ((if_neg hi).trans (hslots i))
  · exact (State.count_congr hopened.counters .packsOpened).trans (State.count_foldl_bump (by decide) s .packsOpened)

end Sys2Proof.Machine

/-! ## The abort of a pack with no member to carry (R92, R139, R177 to R179, R183, R187, R189, R190) -/

namespace Sys2Proof.Machine

section
variable {s : State} {id : SlotId} {cause : AbortCause}

/-! ### Its buffers (R152, R182, R183) -/

theorem State.bufferTouched_nil (s : State) (i : Fin 64) : s.bufferTouched i [] = false := by
  unfold State.bufferTouched
  split <;> rfl

/-- Which pack holds a buffer is read from the buffer. -/
theorem State.heldByPack_congr {t : State} {i : Fin 64} (h : t.buffer i = s.buffer i) : t.heldByPack id i = s.heldByPack id i := by
  unfold State.heldByPack
  rw [h]

theorem State.heldByPack_free {i : Fin 64} (h : s.buffer i = ⟨.free, none⟩) : s.heldByPack id i = false := by
  unfold State.heldByPack
  rw [h]

theorem State.heldByPack_inService {i : Fin 64} (h : s.heldByPack id i = true) : (s.buffer i).state ≠ .retired := by
  intro hr
  unfold State.heldByPack at h
  split at h
  · simp [hr] at h
  · nomatch h

/-- The pass over some buffers that frees those a pack holds. -/
def State.freePack (s : State) (id : SlotId) (l : List (Fin 64)) : State :=
  l.foldl (fun s i => if s.heldByPack id i then s.freeBuffer i else s) s

theorem State.freePack_freesOnly (s : State) (id : SlotId) (l : List (Fin 64)) : s.FreesOnly (s.freePack id l) :=
  .foldl (fun s i => .ite (fun _ => s.freeBuffer_freesOnly i) fun _ => .refl s) l s

theorem State.freePack_buffer (s : State) (id : SlotId) (l : List (Fin 64)) (i : Fin 64) : (s.freePack id l).buffer i =
    if i ∈ l ∧ s.heldByPack id i = true then ⟨.free, none⟩ else s.buffer i := by
  induction l generalizing s with
  | nil => simp [State.freePack]
  | cons j l ih =>
    have hcons : s.freePack id (j :: l) = (if s.heldByPack id j then s.freeBuffer j else s).freePack id l := rfl
    rw [hcons, ih]
    by_cases hj : s.heldByPack id j = true
    · have hfree := State.freeBuffer_buffer (State.heldByPack_inService hj) i
      rw [if_pos hj]
      by_cases e : i = j
      · subst e
        rw [if_pos rfl] at hfree
        rw [State.heldByPack_free hfree, hfree]
        simp [hj]
      · rw [if_neg e] at hfree
        rw [State.heldByPack_congr hfree, hfree]
        simp [e]
    · rw [if_neg hj]
      by_cases e : i = j
      · subst e
        simp [hj]
      · simp [e]

/-- With no member offered both passes of an abort over the buffers free what the pack holds (R182, R183). -/
theorem State.freeUntouched_nil (s : State) (id : SlotId) : s.freeUntouched id [] = s.freePack id (List.finRange 64) := by
  simp only [State.freeUntouched, State.freePack, State.bufferTouched_nil, Bool.not_false, Bool.and_true]

theorem State.holdOrFree_nil (s : State) (id : SlotId) : s.holdOrFree id [] = s.freePack id (List.finRange 64) := by
  simp only [State.holdOrFree, State.freePack, State.bufferTouched_nil, Bool.false_eq_true, if_false]

/-- With no member offered the plan frees the pack's buffers, and no others (R183). -/
theorem State.abortPlan_unoffered (s : State) (id : SlotId) : ∃ t, s.abortPlan id [] none = (t, 0) ∧ s.FreesOnly t ∧
    ∀ i, t.buffer i = if s.heldByPack id i = true then ⟨.free, none⟩ else s.buffer i := by
  refine ⟨(s.freePack id (List.finRange 64)).freePack id (List.finRange 64), ?_,
    (s.freePack_freesOnly id _).trans (State.freePack_freesOnly _ id _), fun i => ?_⟩
  · simp [State.abortPlan, State.freeUntouched_nil, State.holdOrFree_nil]
  · have hfirst := s.freePack_buffer id (List.finRange 64) i
    simp only [List.mem_finRange, true_and] at hfirst
    rw [State.freePack_buffer, hfirst]
    by_cases hi : s.heldByPack id i = true
    · rw [if_pos hi] at hfirst ⊢
      rw [ite_self]
    · rw [if_neg hi] at hfirst ⊢
      rw [State.heldByPack_congr hfirst, if_neg fun k => hi k.2]

/-! ### Its fetches (R139) -/

theorem State.dropFetches_eq (s : State) (id : SlotId) (l : List (Fin 4)) : ∃ fen : Fen,
    l.foldl (fun s i => if s.fetchesFor id i then s.dropFetch i else s) s = s.withFen fen ∧ fen.queue = s.fen.queue := by
  induction l generalizing s with
  | nil => exact ⟨s.fen, rfl, rfl⟩
  | cons i l ih =>
    obtain ⟨fen, heq, hqueue⟩ := ih (if s.fetchesFor id i then s.dropFetch i else s)
    refine ⟨fen, heq.trans ?_, hqueue.trans ?_⟩ <;> split <;> rfl

/-- An abort whose pack's members are all that wait for a fetch changes the fetch engine alone (R139). -/
theorem State.abortFetches_eq (hqueue : ∀ r ∈ s.fen.queue, r.slot = id) : ∃ fen : Fen, s.abortFetches id = s.withFen fen := by
  have hempty : s.fen.queue.filter (fun r => r.slot ≠ id) = [] := List.filter_eq_nil_iff.2 fun r hr => by simp [hqueue r hr]
  obtain ⟨fen, heq, hgone⟩ := (s.withFen { s.fen with queue := [] }).dropFetches_eq id (List.finRange 4)
  refine ⟨fen, ?_⟩
  unfold State.abortFetches
  dsimp only
  rw [hempty, heq]
  exact State.takeFetchesN_empty hgone 4

/-! ### Its counters (R193) -/

theorem State.queueReleases_count {k : Ctr} (hq : k ≠ .releasesQueued) (ho : k ≠ .releaseOverflows) (rs : List Release) (s : State) :
    (s.queueReleases rs).count k = s.count k := by
  induction rs generalizing s with
  | nil => rfl
  | cons r rs ih =>
    refine (ih (s.queueRelease r.pair r.reason)).trans ?_
    unfold State.queueRelease
    split
    · exact State.count_bump_other _ hq.symm
    · exact State.count_bump_other _ ho.symm

theorem State.abortDrain_count {k : Ctr} (h : k ≠ .abandonsSent) (s : State) (id : SlotId) : (s.abortDrain id).count k = s.count k := by
  have hissue (t : State) : t.issueAbandon.count k = t.count k := by
    unfold State.issueAbandon
    split
    · exact State.count_bump_other (State.emit _ _) h.symm
    · rfl
  unfold State.abortDrain
  dsimp only
  split
  · split
    · split
      · exact hissue _
      · rfl
    · rfl
  · rfl

/-! ### Its first steps (R178, steps 1 to 5) -/

theorem State.triggerBeacon_eq (s : State) (id : SlotId) (phase : PackPhase) : ∃ p : Pvw, s.triggerBeacon id phase = s.withPvw p := by
  unfold State.triggerBeacon
  split
  · exact ⟨_, rfl⟩
  · exact ⟨s.pvw, rfl⟩

/-- What the first five steps of an abort leave: the slot ABORTED, its claims, fetches and place in the drain engine given up, and its cause
counted. -/
theorem State.abortBegin_stores (hqueue : ∀ r ∈ s.fen.queue, r.slot = id) :
    ∃ (p : Pvw) (fen : Fen) (n : Nat) (emitted : List Emission) (counters : Vector Counter 84), s.abortBegin id cause =
      (((((((s.setSlot id { s.slot id with state := .aborted, ageDeadline := none, commitPoint := none }).withPvw p).withFen fen).withSpl
        { s.spl with promised := n }).withSel { s.sel with claims := orphanClaims id s.sel.claims }).withDrn
        (s.drn.without fun j => j = id)).withEmitted emitted).withCounters counters ∧
      (s.abortBegin id cause).count cause.counter = saturatingNext (s.count cause.counter) := by
  obtain ⟨p, hp⟩ := (s.bump cause.counter).triggerBeacon_eq id .aborted
  obtain ⟨p', hp'⟩ : ∃ p' : Pvw, (if (s.slot id).state.accepting = true then ((s.bump cause.counter).withPvw p).stopBeaconTimer
      else (s.bump cause.counter).withPvw p) = (s.bump cause.counter).withPvw p' := by
    split
    · exact ⟨_, rfl⟩
    · exact ⟨p, rfl⟩
  let t := (((s.bump cause.counter).withPvw p').setSlot id
    { s.slot id with state := .aborted, ageDeadline := none, commitPoint := none }).recomputePromised
  let u := t.withSel { s.sel with claims := orphanClaims id s.sel.claims }
  have hu : u.fen.queue = s.fen.queue := by simp [u, t]
  obtain ⟨fen, hfen⟩ := State.abortFetches_eq (s := u) (id := id) (hu ▸ hqueue)
  obtain ⟨counters, hdrain⟩ := (u.withFen fen).abortDrain_eq id
  have hbegin : s.abortBegin id cause = (u.withFen fen).abortDrain id := by
    unfold State.abortBegin
    dsimp only
    rw [hp, hp', ← hfen]
    simp [u, t]
  have hcause : cause.counter ≠ .abandonsSent := by cases cause <;> decide
  have hcounters : (u.withFen fen).counters = (s.bump cause.counter).counters := by simp [u, t]
  refine ⟨p', fen, t.spl.promised, s.emitted ++ s.drn.abandons s.lif.station fun j => j = id, counters, ?_, ?_⟩
  · rw [hbegin, hdrain]
    cases id <;> rfl
  · rw [hbegin, State.abortDrain_count hcause, State.count_congr hcounters, State.count_bump]

/-! ### The abort -/

/-- No member is offered where the cause plans no carry, and none where no member is DONE (R180). -/
theorem State.offeredMembers_none {t : State} (hdone : cause.plansCarry = true → ∀ m ∈ (t.slot id).members, m.state ≠ .done) :
    (if cause.plansCarry = true then t.offeredMembers id else []) = [] := by
  split
  · next hc => exact List.filter_eq_nil_iff.2 fun m hm => by simp [hdone hc m hm]
  · rfl

/-- A carry into the other slot goes on (R186). -/
theorem State.stopCarryInto_elsewhere {copies : List Copy} (h : ∀ c ∈ copies, c.target.slot ≠ id) (t : State) :
    t.stopCarryInto id copies = t := by
  have hnone : (copies.any fun c => c.target.slot = id) = false := by simpa using h
  rw [State.stopCarryInto, hnone]
  rfl

/-- The ABORTED record of a pack that carries no member out (R190). -/
def State.uncarriedRecord (s : State) (id : SlotId) (cause : AbortCause) : PackRecord :=
  { s.abortedRecord id cause with
    carriedOut := 0, released := (s.abortedRecord id cause).released + (s.packReleases cause.reason id).length }

theorem State.uncarriedRecord_eq {key open_ : Word64} (hkey : (s.slot id).primaryKey = some key) (hopen : (s.slot id).openTime = some open_) :
    s.uncarriedRecord id cause =
      { station := s.lif.station, epoch := s.mgt.config.epoch, seq := (s.slot id).seq, outcome := .aborted cause, segments := s.storedCount id,
        members := (s.slot id).members.length, voids := (s.slot id).members.countP fun m => m.state.isVoid, carriedOut := 0,
        released := (s.slot id).members.countP Member.released + ((s.slot id).members.filter fun m => !m.state.isVoid).length,
        key := key, openTime := open_, closeTime := s.timestamp } := by
  simp only [State.uncarriedRecord, State.abortedRecord, State.packReleases, hkey, hopen, List.length_map, Option.getD_some]

/-- The abort of a pack that carries no member out: its slot is FREE, its claims are given up, its record is queued, its releases join the list,
its buffers are FREE, and its cause is counted (R178, R179, R183). -/
theorem State.abortPack_uncarried (ha : (s.slot id).state.abortable = true)
    (hdone : cause.plansCarry = true → ∀ m ∈ (s.slot id).members, m.state ≠ .done) (hcopies : ∀ c ∈ s.aru.copies, c.target.slot ≠ id)
    (hqueue : ∀ r ∈ s.fen.queue, r.slot = id) :
    ∃ (p : Pvw) (fen : Fen) (spl : Spl) (emitted : List Emission) (releases : List Release) (counters : Vector Counter 84),
      s.abortPack id cause = ((((((((((s.setSlot id {}).withPvw p).withFen fen).withSpl spl).withSel
        { s.sel with claims := orphanClaims id s.sel.claims }).withDrn (s.drn.without fun j => j = id)).withEmitted emitted).withMgt
        { s.mgt with records := s.mgt.records ++ [s.uncarriedRecord id cause] }).withAru
        { s.aru with releases := releases }).withCounters counters).withWake true ∧
      (s.aru.releases.length + (s.packReleases cause.reason id).length ≤ 8200 →
        releases = s.aru.releases ++ s.packReleases cause.reason id) ∧
      (∀ i : Fin 64, spl.buffers[i] = if s.heldByPack id i = true then ⟨.free, none⟩ else s.buffer i) ∧
      (s.abortPack id cause).count cause.counter = saturatingNext (s.count cause.counter) := by
  obtain ⟨p, fen, n, emitted, begun, hbegin, hcounted⟩ := State.abortBegin_stores (cause := cause) hqueue
  have hmembers : ((s.abortBegin id cause).slot id).members = (s.slot id).members := by rw [hbegin]; simp
  have hbuffer (i : Fin 64) : (s.abortBegin id cause).buffer i = s.buffer i := by rw [hbegin]; cases id <;> rfl
  have hoffered := State.offeredMembers_none (t := s.abortBegin id cause) (id := id) (hmembers ▸ hdone)
  obtain ⟨u, hplan, ⟨⟨bufs, w, hu⟩, -⟩, hfreed⟩ := (s.abortBegin id cause).abortPlan_unoffered id
  have hucount : u.count cause.counter = saturatingNext (s.count cause.counter) := by
    rw [← hcounted]
    exact State.count_congr (by rw [hu]; simp) _
  rw [hbegin] at hu
  obtain ⟨counters, releases, hreleased, hroom⟩ := u.queueReleases_eq (s.packReleases cause.reason id)
  have hvcount : (u.queueReleases (s.packReleases cause.reason id)).count cause.counter = saturatingNext (s.count cause.counter) :=
    (State.queueReleases_count (by cases cause <;> decide) (by cases cause <;> decide) _ u).trans hucount
  have hpack : s.abortPack id cause = ((u.queueReleases (s.packReleases cause.reason id)).queueRecord
      (s.uncarriedRecord id cause)).clearSlot id := by
    have haborted : ((u.queueReleases (s.packReleases cause.reason id)).slot id).state = .aborted := by
      rw [hreleased, hu]
      simp
    unfold State.abortPack
    rw [if_pos ha]
    simp only [hoffered, List.isEmpty_nil, if_true, hplan, Option.isSome_none, abortReleases_untargeted, hmembers,
      State.stopCarryInto_elsewhere hcopies]
    rw [← State.packReleases, State.abortFinish_uncarried haborted]
    rfl
  refine ⟨p, fen, { s.spl with buffers := bufs, promised := n }, emitted, releases, counters, ?_, ?_, fun i => ?_, ?_⟩
  · rw [hpack, hreleased, hu]
    cases id <;> rfl
  · rw [hu] at hroom
    simpa using hroom
  · have hi := hfreed i
    rw [hu, hbuffer, State.heldByPack_congr (hbuffer i)] at hi
    exact hi
  · rw [hpack, ← hvcount]
    exact State.count_congr (State.setSlot_counters ..) _

end

end Sys2Proof.Machine

namespace Sys2Proof

section
open Machine

/-- Settles O42: with no carry an abort releases the members not VOID and gives up the pack's claims, segments and buffers. -/
theorem abortReleases : Obligations.AbortReleases := by
  intro id cause key open_ s ha hkey hopen hdone hcopies hqueue hroom x live left t
  obtain ⟨p, fen, spl, emitted, releases, counters, heq, hreleases, hbuffers, hcount⟩ :=
    State.abortPack_uncarried ha hdone hcopies hqueue
  have hlive : s.packReleases cause.reason id = live.map fun m => ⟨m.file.pair, if cause = .restart then .restart else .abort⟩ := by
    rw [State.packReleases, AbortCause.reason_eq]
  have hlength : (s.packReleases cause.reason id).length ≤ (s.slot id).members.length := by
    rw [State.packReleases, List.length_map]
    exact List.length_filter_le ..
  have ht : t = _ := heq
  refine ⟨?_, ?_, ?_, ?_, ?_, fun q hq => ?_, ?_, fun i => ?_, hcount, ?_, ?_, ?_, ?_⟩
  · rw [ht]; simp
  · rw [ht]; simp
  · rw [ht, ← hlive, ← hreleases (by omega)]
    simp
  · rw [ht]; simp
  · rw [ht]
    exact congrArg (fun r => { s.mgt with records := s.mgt.records ++ [r] }) (State.uncarriedRecord_eq hkey hopen)
  · have hmem : q ∈ (s.drn.without fun j => j = id).queue := by
      rw [ht] at hq
      simpa using hq
    simpa [Drn.without] using (List.mem_filter.1 hmem).2
  · rw [ht]
    rfl
  · refine Eq.trans ?_ (hbuffers i)
    rw [ht]
    rfl
  · rw [ht]; simp
  · rw [ht]; simp
  · rw [ht]; cases id <;> rfl
  · rw [ht]; simp

end

end Sys2Proof

/-! ## WITHDRAW of a live member (R112 to R114, R137, R138) -/

namespace Sys2Proof.Machine

section
variable {s : State} {p : FilePair} {r : MemberRef} {m : Member}

/-- The member turns VOID(WITHDRAWN) in its place (R106, R114). -/
def State.voidWithdrawn (s : State) (r : MemberRef) : State := s.modMember r fun m => { m with state := .void .withdrawn }

theorem State.voidWithdrawn_slot (s : State) (r : MemberRef) : (s.voidWithdrawn r).slot r.slot =
    { s.slot r.slot with members := (s.slot r.slot).members.modify r.index fun m => { m with state := .void .withdrawn } } :=
  s.modMember_slot r _

theorem State.voidWithdrawn_frame (s : State) (r : MemberRef) :
    (s.voidWithdrawn r).lif = s.lif ∧ (s.voidWithdrawn r).fen = s.fen ∧ (s.voidWithdrawn r).wake = s.wake := by
  simp [State.voidWithdrawn, State.modMember]

/-- A settling by withdrawal brings no close and no commit where a settling brings none. -/
theorem State.memberSettled_voidWithdrawn (ho : (s.slot r.slot).state = .opened) (hseg : (s.slot r.slot).segmentOpen) (k : Ctr) :
    ((s.voidWithdrawn r).bump k).memberSettled r.slot = (s.voidWithdrawn r).bump k := by
  have hslot : ((s.voidWithdrawn r).bump k).slot r.slot = _ := s.voidWithdrawn_slot r
  exact State.memberSettled_of_open (by rw [hslot]; exact ho) (by rw [hslot]; exact hseg)

/-- A WITHDRAW of a GRANTED member in an OPEN pack (R137). -/
theorem State.withdrawGranted_opened (ho : (s.slot r.slot).state = .opened) (hseg : (s.slot r.slot).segmentOpen) :
    s.withdrawGranted r =
      ((s.withFen { s.fen with queue := s.fen.queue.filter fun q => q ≠ r }).voidWithdrawn r).bump .withdrawnBeforeFetch :=
  State.memberSettled_voidWithdrawn (s := s.withFen { s.fen with queue := s.fen.queue.filter fun q => q ≠ r }) ho hseg _

/-- A WITHDRAW of a FETCHING member in an OPEN pack, with no member waiting for its fetch slot (R138). -/
theorem State.withdrawFetching_opened {i : Fin 4} (hi : s.fetchOf r = some i) (hq : s.fen.queue = [])
    (ho : (s.slot r.slot).state = .opened) (hseg : (s.slot r.slot).segmentOpen) :
    s.withdrawFetching r = ((s.dropFetch i).voidWithdrawn r).bump .withdrawnDuringFetch := by
  have hsettled := State.memberSettled_voidWithdrawn (s := s.dropFetch i) ho hseg .withdrawnDuringFetch
  have hqueue : (((s.dropFetch i).voidWithdrawn r).bump .withdrawnDuringFetch).fen.queue = [] :=
    (congrArg Fen.queue ((s.dropFetch i).voidWithdrawn_frame r).2.1).trans hq
  unfold State.withdrawFetching
  rw [hi]
  exact (congrArg State.takeFetches hsettled).trans (State.takeFetchesN_empty hqueue 4)

/-! ### By the state of the slot and of the member (R112) -/

theorem State.withdrawnMember_granted (hr : s.liveMember p = some r) (hm : s.member? r = some m)
    (ho : (s.slot r.slot).state = .opened) (hst : m.state = .granted) : s.withdrawnMember p = s.withdrawGranted r := by
  simp only [State.withdrawnMember, hr, ho, hm, hst, Option.map_some]

theorem State.withdrawnMember_fetching (hr : s.liveMember p = some r) (hm : s.member? r = some m)
    (ho : (s.slot r.slot).state = .opened) (hst : m.state = .fetching) : s.withdrawnMember p = s.withdrawFetching r := by
  simp only [State.withdrawnMember, hr, ho, hm, hst, Option.map_some]

theorem State.withdrawnMember_done (hr : s.liveMember p = some r) (hm : s.member? r = some m)
    (ho : (s.slot r.slot).state = .opened) (hst : m.state = .done) :
    s.withdrawnMember p = (s.voidWithdrawn r).bump .doneMembersWithdrawn := by
  have hclose : ((s.voidWithdrawn r).bump .doneMembersWithdrawn).testClose r.slot = (s.voidWithdrawn r).bump .doneMembersWithdrawn :=
    State.testClose_of_ne_closing (by rw [State.bump_slot, State.voidWithdrawn_slot]; simp [ho])
  simp only [State.withdrawnMember, hr, ho, hm, hst, Option.map_some]
  exact hclose

theorem State.withdrawnMember_late (hr : s.liveMember p = some r) (hm : s.member? r = some m)
    (hlate : (s.slot r.slot).state = .closed ∨ (s.slot r.slot).state = .ending) : s.withdrawnMember p = s.bump .lateWithdraws := by
  rcases hlate with h | h <;> simp only [State.withdrawnMember, hr, h, hm, Option.map_some]

/-- For a pair neither listed nor pending here, a WITHDRAW concerns the pack builder alone (R55, R89, R112). -/
theorem State.withdrawArrives_member (hlist : s.candidate? p = none) (hclaim : s.claim? p = none) :
    s.withdrawArrives p = s.withdrawnMember p := by
  rw [State.withdrawArrives, State.removeCandidate_absent hlist, State.endClaimOf_none hclaim]

/-! ### Its step -/

/-- With no wake-up, a FULL holder and a slot in use, nothing follows a command's own event. -/
theorem State.settle_inUse {t : State} {id : SlotId} (hl : s.holderFull) (hlif : t.lif = s.lif) (hw : t.wake = false)
    (hslot : (t.slot id).state ≠ .free) : t.settle = t :=
  State.settle_unwoken (State.holderFull_congr hl hlif) hw (State.quietNow_of_slot hslot)

/-- Nothing follows the withdrawal of a member of an OPEN pack. -/
theorem State.settle_voidWithdrawn (hl : s.holderFull) (hw : s.wake = false) (ho : (s.slot r.slot).state = .opened) (k : Ctr) :
    ((s.voidWithdrawn r).bump k).settle = (s.voidWithdrawn r).bump k := by
  obtain ⟨hlif, -, hwake⟩ := s.voidWithdrawn_frame r
  refine State.settle_inUse (id := r.slot) hl hlif (hwake.trans hw) ?_
  rw [State.bump_slot, State.voidWithdrawn_slot]
  simp [ho]

end

/-- Settles O24: by the member's state, each case comes down to the withdrawal's own event. -/
theorem withdrawMember : Obligations.WithdrawMember := by
  intro f sender ticket r m s p hacc hread hfull hlist hclaim hr hm a void
  have hexec : exec (.withdraw f) s = .next (a.withdrawnMember p).settle :=
    (exec_withdraw_frame hacc hread).trans
      (congrArg (fun t : State => Host.Outcome.next t.settle) (State.withdrawArrives_member (s := a) hlist hclaim))
  rw [hexec]
  refine ⟨fun ho hseg => ⟨fun hst => ?_, fun hst => ?_, fun i hst hi hq => ?_⟩, fun hlate => ?_⟩
  · rw [State.withdrawnMember_done (s := a) hr hm ho hst]
    exact congrArg Host.Outcome.next (State.settle_voidWithdrawn (s := a) hfull rfl ho _)
  · rw [State.withdrawnMember_granted (s := a) hr hm ho hst, State.withdrawGranted_opened (s := a) ho hseg]
    exact congrArg Host.Outcome.next (State.settle_voidWithdrawn (s := a.withFen _) hfull rfl ho _)
  · rw [State.withdrawnMember_fetching (s := a) hr hm ho hst, State.withdrawFetching_opened (s := a) hi hq ho hseg]
    exact congrArg Host.Outcome.next (State.settle_voidWithdrawn (s := a.dropFetch i) hfull rfl ho _)
  · have hused : ((a.bump .lateWithdraws).slot r.slot).state ≠ .free := by
      rcases hlate with h | h <;> exact fun k => nomatch h.symm.trans k
    rw [State.withdrawnMember_late (s := a) hr hm hlate, State.settle_inUse (t := a.bump _) hfull rfl rfl hused]

end Sys2Proof.Machine

/-! ## The next-message choice (R165 to R168, R173) -/

namespace Sys2Proof.Machine

section
variable {s : State} {c : CurrentPack} {x : DrainEntry} {rest : List DrainEntry}

/-! ### Its rows (R165) -/

theorem State.nextIssue_down (h : s.drn.port = .down) : s.nextIssue = none := if_pos h

theorem PortState.ne_down {p : PortState} (h : p = .up) : p ≠ .down := by rw [h]; decide

theorem State.nextIssue_abandon {r : AbandonRecord} (hup : s.drn.port = .up) (ha : s.drn.abandon = some r) :
    s.nextIssue = some s.issueAbandon := by
  rw [State.nextIssue, if_neg (PortState.ne_down hup)]
  simp only [ha]

theorem State.nextIssue_start (hup : s.drn.port = .up) (ha : s.drn.abandon = none) (hc : s.drn.current = none)
    (hq : s.drn.queue = x :: rest) : s.nextIssue = some (s.startPack x) := by
  rw [State.nextIssue, if_neg (PortState.ne_down hup)]
  simp only [ha, hc, hq]

theorem State.nextIssue_segment (hup : s.drn.port = .up) (ha : s.drn.abandon = none) (hc : s.drn.current = some c)
    (hw : s.drn.window.length < 4) (hq : s.drn.queue = x :: rest) (hslot : x.slot = c.slot) (hseg : x.segment = c.next) :
    s.nextIssue = some (if sendCheck (s.readBuffer x.buffer) then s.sendSegment c x rest (s.readBuffer x.buffer)
      else s.damagedSegment c x rest) := by
  rw [State.nextIssue, if_neg (PortState.ne_down hup)]
  simp only [ha, hc, hq]
  rw [if_pos hw, if_pos ⟨hslot, hseg⟩]

theorem State.nextIssue_packEnd {mf : Manifest} (hup : s.drn.port = .up) (ha : s.drn.abandon = none) (hc : s.drn.current = some c)
    (hw : s.drn.window.length < 4) (hq : s.drn.queue = []) (hmf : (s.slot c.slot).manifest = some mf) (hlast : c.next = mf.packLength)
    (hend : c.endSent = false) : s.nextIssue = some (s.sendPackEnd c mf) := by
  have hdue : s.packEndDue c = some mf := by
    simp only [State.packEndDue, hmf]
    exact if_pos ⟨hlast, hend⟩
  rw [State.nextIssue, if_neg (PortState.ne_down hup)]
  simp only [ha, hc, hq, hdue]
  exact if_pos hw

/-! ### Its issues -/

theorem State.issueAbandon_waiting {r : AbandonRecord} (ha : s.drn.abandon = some r) : s.issueAbandon =
    ((s.withDrn { s.drn with abandon := none }).emit (.message (.abandon s.lif.station r.epoch r.seq r.stored))).bump .abandonsSent := by
  simp only [State.issueAbandon, ha]
  rfl

/-- PACK-START makes the front entry's pack current (R165, row 2). -/
theorem State.startPack_eq {key time : Word64} (hkey : (s.slot x.slot).primaryKey = some key)
    (htime : (s.slot x.slot).openTime = some time) : s.startPack x =
      (((s.withDrn { s.drn with current := some ⟨x.slot, s.mgt.config.epoch, (s.slot x.slot).seq, 0, 0, false⟩ }).emit
        (.message (.packStart s.lif.station s.mgt.config.epoch (s.slot x.slot).seq (s.slot x.slot).limit key time))).bump
        .packStartsSent) := by
  unfold State.startPack
  dsimp only
  rw [hkey, htime]
  rfl

theorem State.readBuffer_eq (s : State) (b : Fin 64) : s.readBuffer b = s.mem.readRange (1048576 * b.val) 1048576 := rfl

theorem sendCheck_iff (cells : List Byte) :
    sendCheck cells = true ↔ fieldAt cells 1048082 4 = (crc32 (cells.take 1048064)).toNat := decide_eq_true_iff

theorem State.startDrainTimeout_eq (s : State) : s.startDrainTimeout = s.withDrn
    { s.drn with deadline := if s.drn.window = [] then some (s.now + s.mgt.config.drainTimeout) else s.drn.deadline } := by
  unfold State.startDrainTimeout
  by_cases hw : s.drn.window = []
  · rw [if_pos (List.isEmpty_iff.2 hw), if_pos hw]
  · rw [if_neg (mt List.isEmpty_iff.1 hw), if_neg hw]
    rfl

/-- What the drain engine holds once a message is issued for the current pack (R160, R170). -/
def State.issued (s : State) (c : CurrentPack) (w : WindowMsg) (rest : List DrainEntry) : Drn :=
  { s.drn with
    queue := rest, window := s.drn.window ++ [w], current := some c
    deadline := if s.drn.window = [] then some (s.now + s.mgt.config.drainTimeout) else s.drn.deadline }

/-- A SEGMENT changes the drain engine, its buffer's state and a counter (R166, R170). -/
theorem State.sendSegment_eq (s : State) (c : CurrentPack) (x : DrainEntry) (rest : List DrainEntry) (cells : List Byte) :
    s.sendSegment c x rest cells =
      ((((s.setBuffer x.buffer ⟨.draining, (s.buffer x.buffer).bound⟩).withDrn
        (s.issued { c with next := c.next + 1 } (.segment c.next) rest)).emit
        (.message (.segment s.lif.station c.epoch c.seq c.next cells))).bump .segmentsSent) := by
  unfold State.sendSegment
  dsimp only
  rw [State.startDrainTimeout_eq]
  simp [State.now, State.issued, State.withDrn]

theorem State.sendSegment_frame (s : State) (c : CurrentPack) (x : DrainEntry) (rest : List DrainEntry) (cells : List Byte) :
    (s.sendSegment c x rest cells).drn = s.issued { c with next := c.next + 1 } (.segment c.next) rest ∧
    (s.sendSegment c x rest cells).emitted = s.emitted ++ [.message (.segment s.lif.station c.epoch c.seq c.next cells)] ∧
    (s.sendSegment c x rest cells).spl = (s.setBuffer x.buffer ⟨.draining, (s.buffer x.buffer).bound⟩).spl ∧
    (s.sendSegment c x rest cells).mem = s.mem ∧ (s.sendSegment c x rest cells).pkb = s.pkb ∧
    (s.sendSegment c x rest cells).count .segmentsSent = saturatingNext (s.count .segmentsSent) := by
  rw [State.sendSegment_eq]
  refine ⟨rfl, by simp, rfl, by simp, by simp, ?_⟩
  rw [State.count_bump]
  exact congrArg saturatingNext (State.count_congr (State.setBuffer_counters s x.buffer ⟨.draining, (s.buffer x.buffer).bound⟩) _)

/-- What a failed send-time check leaves for the abort: the segment out of the queue, its buffer RETIRED (R153, R167). -/
def State.segmentRetired (s : State) (x : DrainEntry) (rest : List DrainEntry) : State :=
  ((s.withDrn { s.drn with queue := rest }).setBuffer x.buffer ⟨.retired, none⟩).bump .sendCheckRetirements

theorem State.damagedSegment_eq (s : State) (c : CurrentPack) (x : DrainEntry) (rest : List DrainEntry) :
    s.damagedSegment c x rest = (s.segmentRetired x rest).abortPack c.slot .damage := rfl

theorem State.segmentRetired_frame (s : State) (x : DrainEntry) (rest : List DrainEntry) :
    (s.segmentRetired x rest).drn = { s.drn with queue := rest } ∧
    (s.segmentRetired x rest).spl = (s.setBuffer x.buffer ⟨.retired, none⟩).spl ∧
    (s.segmentRetired x rest).emitted = s.emitted ∧ (s.segmentRetired x rest).pkb = s.pkb ∧
    (s.segmentRetired x rest).mem = s.mem ∧
    (s.segmentRetired x rest).count .sendCheckRetirements = saturatingNext (s.count .sendCheckRetirements) := by
  refine ⟨by simp [State.segmentRetired], ?_, by simp [State.segmentRetired], by simp [State.segmentRetired],
    by simp [State.segmentRetired], ?_⟩
  · exact State.setBuffer_spl_congr (s := s) (t := s.withDrn { s.drn with queue := rest }) rfl ..
  · rw [State.segmentRetired, State.count_bump]
    exact congrArg saturatingNext (State.count_congr (State.setBuffer_counters (s.withDrn { s.drn with queue := rest }) _ _) _)

theorem State.packEndSent_closed {id : SlotId} (h : (s.slot id).state = .closed) :
    s.packEndSent id = s.setSlot id { s.slot id with state := .ending } := if_pos h

/-- A PACK-END changes the drain engine, a counter and the state of the CLOSED slot (R116, R168, R170). -/
theorem State.sendPackEnd_eq (mf : Manifest) (h : (s.slot c.slot).state = .closed) : s.sendPackEnd c mf =
    State.setSlot (((s.withDrn (s.issued { c with endSent := true } .packEnd s.drn.queue)).emit
      (.message (.packEnd s.lif.station c.epoch c.seq mf.packLength mf.entries.length))).bump .packEndsSent)
      c.slot { s.slot c.slot with state := .ending } := by
  unfold State.sendPackEnd
  dsimp only
  rw [State.startDrainTimeout_eq]
  exact State.packEndSent_closed (s := State.bump (State.emit (s.withDrn _) _) _) h

end

/-- Settles O38, row by row. -/
theorem nextMessage : Obligations.NextMessage := by
  intro s
  refine ⟨State.nextIssue_down, fun r hup ha => ?_, fun x rest key time hup ha hc hq hkey htime => ?_,
    fun c x rest hup ha hc hw hq hslot hseg hready => ?_, fun c mf hup ha hc hw hq hmf hlast hend hclosed => ?_⟩
  · rw [State.nextIssue_abandon hup ha, State.issueAbandon_waiting ha]
    rfl
  · rw [State.nextIssue_start hup ha hc hq, State.startPack_eq hkey htime]
    rfl
  · intro cells
    have hissue := State.nextIssue_segment hup ha hc hw hq hslot hseg
    have hcells : s.readBuffer x.buffer = cells := s.readBuffer_eq x.buffer
    have hkept : (s.buffer x.buffer).state ≠ .retired := by rw [hready]; decide
    rw [hcells] at hissue
    clear_value cells
    refine ⟨fun hcheck => ?_, fun hcheck => ?_⟩
    · rw [if_pos ((sendCheck_iff cells).2 hcheck)] at hissue
      obtain ⟨hdrn, hemitted, hspl, hmem, hpkb, hcount⟩ := s.sendSegment_frame c x rest cells
      refine ⟨_, hissue, hdrn, hemitted, ?_, fun i hi => ?_, hmem, hpkb, hcount⟩
      · rw [State.buffer_congr hspl, s.setBuffer_buffer _ _ _ hkept, if_pos rfl]
      · rw [State.buffer_congr hspl, s.setBuffer_buffer_other hi]
    · rw [if_neg (mt (sendCheck_iff cells).1 hcheck), State.damagedSegment_eq] at hissue
      obtain ⟨hdrn, hspl, hemitted, hpkb, hmem, hcount⟩ := s.segmentRetired_frame x rest
      refine ⟨_, _, hissue, rfl, hdrn, ?_, fun i hi => ?_, hemitted, hpkb, hmem, hcount⟩
      · rw [State.buffer_congr hspl, s.setBuffer_buffer _ _ _ hkept, if_pos rfl]
      · rw [State.buffer_congr hspl, s.setBuffer_buffer_other hi]
  · have hissue := State.nextIssue_packEnd hup ha hc hw hq hmf hlast hend
    rw [State.sendPackEnd_eq mf hclosed] at hissue
    refine ⟨_, hissue, by simp [State.issued], by simp, State.setSlot_slot .., ?_, ?_⟩
    · exact State.setSlot_slot_other ..
    · rw [State.count_congr (State.setSlot_counters ..), State.count_bump]
      rfl

end Sys2Proof.Machine

/-! ## STORED for the oldest message (R116, R117, R151, R169, R170) -/

namespace Sys2Proof.Machine

section
variable {s : State} {c : CurrentPack}

/-- Outside QUIESCING, with a FULL holder and a round that admits nothing, the settling only spends the wake-up. -/
theorem State.settle_woken {t : State} (hl : s.holderFull) (hn : s.noneToAdmit) (hrun : s.mgt.run ≠ .quiescing) (hw : t.wake = false)
    (hlif : t.lif = s.lif) (hoft : t.oft = s.oft) (hsame : t.mgt.run = s.mgt.run) : (t.withWake true).settle = t := by
  have hnone : (t.withWake true).noneToAdmit := by
    unfold State.noneToAdmit
    rw [State.withWake_mgt, State.withWake_oft, hsame, hoft]
    exact hn
  have hquiet : (t.withWake true).quietNow = false := State.quietNow_unfinished fun k => absurd (hsame.symm.trans k) hrun
  rw [State.settle_noneToAdmit (s := t.withWake true) (State.holderFull_congr hl hlif) hnone hquiet]
  exact State.withWake_self hw

/-- A segment number below END fits its field (R162). -/
theorem segment_toNat {k : Nat} (hk : k < 0xFFFFFFFF) : (BitVec.ofNat 32 k).toNat = k := by
  rw [BitVec.toNat_ofNat]
  omega

/-- The oldest segment of the window, as a STORED names it (R162, R169). -/
theorem State.storedMatch_segment {k : Nat} {rest : List WindowMsg} (hk : k < 0xFFFFFFFF) (hc : s.drn.current = some c)
    (hw : s.drn.window = .segment k :: rest) :
    s.storedMatch ⟨c.epoch, c.seq, BitVec.ofNat 32 k⟩ = some (c, .segment k, rest) := by
  have hval : (BitVec.ofNat 32 k).toNat = k := segment_toNat hk
  have hnot : BitVec.ofNat 32 k ≠ storedEnd := fun e => by
    have := hval.symm.trans (congrArg BitVec.toNat e)
    simp [storedEnd] at this
    omega
  simp [State.storedMatch, hc, hw, WindowMsg.named, hval, hnot]

/-- A DRAINING buffer becomes FREE once its segment is stored (R145, R151). -/
theorem State.storeBuffer_draining {id : SlotId} {k : Nat} {b : Fin 64} (hb : s.bufferOf id k = some b)
    (hd : (s.buffer b).state = .draining) : s.storeBuffer id k =
      ((s.withSpl { s.spl with buffers := s.spl.buffers.set b.val ⟨.free, none⟩ b.isLt }).bump .buffersStored).withWake true := by
  have hfree : s.setBuffer b ⟨.free, none⟩ = s.withSpl { s.spl with buffers := s.spl.buffers.set b.val ⟨.free, none⟩ b.isLt } :=
    if_neg (by rw [hd]; decide)
  simp only [State.storeBuffer, hb, hd, State.freeBuffer, hfree]
  rfl

/-- The state in which a STORED for the oldest segment reaches the pool (R169, R170). -/
def State.segmentStored (s : State) (c : CurrentPack) (rest : List WindowMsg) : State :=
  (s.withDrn
    { s.drn with
      window := rest, deadline := if rest = [] then none else some (s.now + s.mgt.config.drainTimeout)
      current := some { c with stored := c.stored + 1 } }).bump .storedAccepted

theorem exec_stored_segment {k : Nat} {rest : List WindowMsg} (hk : k < 0xFFFFFFFF) (hc : s.drn.current = some c)
    (hw : s.drn.window = .segment k :: rest) :
    exec (.stored (le 4 c.epoch.toNat ++ le 4 c.seq.toNat ++ le 4 k)) s =
      .next ((s.begin.segmentStored c rest).storeBuffer c.slot k).settle := by
  have hval : (BitVec.ofNat 32 k).toNat = k := segment_toNat hk
  have hread : readStored (le 4 c.epoch.toNat ++ le 4 c.seq.toNat ++ le 4 k) = some ⟨c.epoch, c.seq, BitVec.ofNat 32 k⟩ := by
    have h := readStored_le c.epoch c.seq (BitVec.ofNat 32 k)
    rwa [hval] at h
  refine congrArg Host.Outcome.next ?_
  simp only [State.receiveStored, hread, State.storedMatch_segment (s := s.begin) hk hc hw]
  cases rest <;> rfl

/-- The record of an ended pack, from its slot (R117). -/
theorem State.endedRecord_eq {id : SlotId} {mf : Manifest} {key open_ : Word64} (hmf : (s.slot id).manifest = some mf)
    (hkey : (s.slot id).primaryKey = some key) (hopen : (s.slot id).openTime = some open_) :
    s.endedRecord id =
      { station := s.lif.station, epoch := s.mgt.config.epoch, seq := (s.slot id).seq, outcome := .ended, segments := mf.packLength,
        members := (s.slot id).members.length, voids := (s.slot id).members.countP fun m => m.state.isVoid, carriedOut := 0,
        released := (s.slot id).members.countP Member.released, key := key, openTime := open_, closeTime := mf.closeTime } := by
  unfold State.endedRecord
  simp only [hmf, hkey, hopen]
  rfl

/-- What a STORED(END) leaves of an ENDING pack, ahead of its wake-up (R117, R169). -/
def State.packEnded (s : State) (id : SlotId) : State :=
  State.bump (State.bump
    { s.setSlot id {} with
      drn := { s.drn with window := [], deadline := none, current := none }
      mgt := { s.mgt with records := s.mgt.records ++ [s.endedRecord id] } } .storedAccepted) .packsEnded

theorem State.endPack_stored {id : SlotId} (h : (s.slot id).state = .ending) :
    s.endStored.endPack id = (s.packEnded id).withWake true := by
  rw [State.endPack_ending (s := s.endStored) h]
  cases id <;> rfl

theorem State.packEnded_frame (s : State) (id : SlotId) :
    (s.packEnded id).lif = s.lif ∧ (s.packEnded id).oft = s.oft ∧ (s.packEnded id).mgt.run = s.mgt.run ∧
    (s.packEnded id).wake = s.wake := by
  simp [State.packEnded]

end

/-- Settles O39: the pool's or the pack builder's part of an accepted STORED, whose wake-up admits nothing. -/
theorem storedAccepted : Obligations.StoredAccepted := by
  intro c rest s hc hfull hnone hrun deadline
  refine ⟨fun k b hk hw hb hd => ?_, fun mf key open_ hw hending hmf hkey hopen => ?_⟩
  · rw [exec_stored_segment hk hc hw, State.storeBuffer_draining (s := s.begin.segmentStored c rest) hb hd]
    refine congrArg Host.Outcome.next ((State.settle_woken (s := s) hfull hnone hrun ?_ ?_ ?_ ?_).trans ?_) <;> rfl
  · intro x record
    have hrecord : s.begin.endedRecord c.slot = record := State.endedRecord_eq (s := s.begin) hmf hkey hopen
    obtain ⟨hlif, hoft, hsame, hwake⟩ := s.begin.packEnded_frame c.slot
    rw [exec_stored_end hc hw, State.endPack_stored (s := s.begin) hending,
      State.settle_woken (s := s.begin) hfull hnone hrun hwake hlif hoft hsame, State.packEnded, hrecord]
    rfl

end Sys2Proof.Machine

/-! ## When a segment commits (R147, R148) -/

namespace Sys2Proof.Machine

/-! ### The conditions of R147 -/

theorem MemberState.settled_iff (x : MemberState) : x.settled = true ↔ x = .done ∨ ∃ why, x = .void why := by
  cases x <;> simp [MemberState.settled]

theorem SlotState.commits_iff (x : SlotState) : x.commits = true ↔ x = .opened ∨ x = .closing ∨ x = .closed := by
  cases x <;> simp [SlotState.commits]

theorem Slot.segmentReady_iff (x : Slot) (k : Nat) : x.segmentReady k = true ↔
    (∀ m ∈ x.members, seg m.headN ≤ k → k ≤ seg (m.headN + m.footprint - 1) → m.state = .done ∨ ∃ why, m.state = .void why) ∧
    (2047 * k + 2046 ≤ x.e ∨ ∃ mf, x.manifest = some mf ∧ k < mf.packLength) := by
  have hmember (m : Member) : (!touches m.headN m.footprint k || m.state.settled) = true ↔
      (seg m.headN ≤ k → k ≤ seg (m.headN + m.footprint - 1) → m.state = .done ∨ ∃ why, m.state = .void why) := by
    rw [← MemberState.settled_iff, ← and_imp, imp_iff_not_or]
    simp [touches, imp_iff_not_or]
  unfold Slot.segmentReady
  cases x.manifest <;> simp [hmember]

theorem State.committable_iff (s : State) (id : SlotId) (k : Nat) (b : Fin 64) : s.committable id = some (k, b) ↔
    (s.slot id).commitPoint = some k ∧ (s.slot id).state.commits = true ∧ (s.slot id).segmentReady k = true ∧
      s.bufferOf id k = some b := by
  refine ⟨fun h => ?_, fun ⟨hk, hstate, hready, hb⟩ => by simp [State.committable, hk, hstate, hready, hb]⟩
  obtain ⟨hk, hb⟩ := State.committable_some h
  simp only [State.committable, hk, Option.ite_none_right_eq_some, Bool.and_eq_true] at h
  obtain ⟨⟨hstate, hready⟩, -⟩ := h
  exact ⟨hk, hstate, hready, hb⟩

/-! ### The run of commits (R148) -/

theorem State.commitRun_add (s : State) (id : SlotId) (m n : Nat) : s.commitRun id (m + n) = (s.commitRun id m).commitRun id n := by
  induction m generalizing s with
  | zero => rw [Nat.zero_add]; rfl
  | succ m ih =>
    cases hc : s.committable id with
    | none => simp only [State.commitRun_of_none hc]
    | some kb => rw [Nat.add_right_comm, State.commitRun_succ_of_some hc, ih, State.commitRun_succ_of_some hc]

/-- The first commit of a test's run leaves the rest to the same test: 64 commits spend every buffer, so a 65th is never made. -/
theorem State.testCommit_of_some {s : State} {id : SlotId} {k : Nat} {b : Fin 64} (h : s.committable id = some (k, b)) :
    s.testCommit id = (s.commitSegment id k b).testCommit id := by
  calc s.testCommit id = (s.testCommit id).commitRun id 1 := (State.commitRun_of_none (s.testCommit_committable id) 1).symm
    _ = s.commitRun id (64 + 1) := (s.commitRun_add id 64 1).symm
    _ = (s.commitSegment id k b).testCommit id := State.commitRun_succ_of_some h 64

/-! ### Members taken for fetching leave nothing committable (R125, R147) -/

theorem SlotId.eq_or_eq_other (x y : SlotId) : x = y ∨ x = y.other := by cases x <;> cases y <;> simp [SlotId.other]

/-- A slot after one member record of either slot is changed: as before, or with that record changed. -/
theorem State.modMember_slot_cases (s : State) (r : MemberRef) (f : Member → Member) (id : SlotId) :
    (s.modMember r f).slot id = s.slot id ∨
    (s.modMember r f).slot id = { s.slot id with members := (s.slot id).members.modify r.index f } := by
  rcases SlotId.eq_or_eq_other id r.slot with rfl | rfl
  · exact .inr (s.modMember_slot r f)
  · exact .inl (State.setSlot_slot_other ..)

theorem State.modMember_slot_state (s : State) (r : MemberRef) (f : Member → Member) (id : SlotId) :
    ((s.modMember r f).slot id).state = (s.slot id).state := by
  rcases s.modMember_slot_cases r f id with h | h <;> rw [h]

theorem State.modMember_bufferOf (s : State) (r : MemberRef) (f : Member → Member) (id : SlotId) (k : Nat) :
    (s.modMember r f).bufferOf id k = s.bufferOf id k :=
  State.bufferOf_congr (fun i => congrArg Buffer.bound (State.buffer_congr (State.setSlot_spl ..) i)) id k

/-- A segment that is ready with a member FETCHING is not touched by it, so it was ready before. -/
theorem Slot.segmentReady_of_fetching {x : Slot} {k n : Nat}
    (h : { x with members := x.members.modify n fun m => { m with state := .fetching } }.segmentReady k = true) :
    x.segmentReady k = true := by
  rw [Slot.segmentReady_iff] at h ⊢
  obtain ⟨hsettled, hfull⟩ := h
  refine ⟨fun m hm hlo hhi => ?_, hfull⟩
  obtain ⟨j, hj⟩ := List.getElem?_of_mem hm
  by_cases hn : n = j
  · have hfetching : { m with state := .fetching } ∈ x.members.modify n fun m => { m with state := .fetching } :=
      List.mem_of_getElem? (i := j) (by simp [hn, hj])
    simpa using hsettled _ hfetching hlo hhi
  · exact hsettled m (List.mem_of_getElem? (i := j) (by simp [hn, hj])) hlo hhi

theorem State.committable_of_fetching {s : State} {id : SlotId} {r : MemberRef} (h : s.committable id = none) :
    (s.modMember r fun m => { m with state := .fetching }).committable id = none := by
  refine Option.eq_none_iff_forall_ne_some.2 fun kb hkb => ?_
  rw [State.committable_iff, State.modMember_bufferOf] at hkb
  have hbefore : s.committable id = some kb := by
    rw [State.committable_iff]
    rcases s.modMember_slot_cases r (fun m => { m with state := .fetching }) id with hslot | hslot <;> rw [hslot] at hkb
    · exact hkb
    · obtain ⟨hpoint, hstate, hready, hb⟩ := hkb
      exact ⟨hpoint, hstate, Slot.segmentReady_of_fetching hready, hb⟩
  exact nomatch h.symm.trans hbefore

/-- What changes of the fetch engine and a member's turning FETCHING keep, the taking of queued members keeps (R125). -/
theorem State.takeFetches_keeps {P : State → Prop} (hfen : ∀ s x, P s → P (s.withFen x))
    (hmember : ∀ s r, P s → P (s.modMember r fun m => { m with state := .fetching })) {s : State} (h : P s) : P s.takeFetches := by
  have hall (n : Nat) : ∀ s, P s → P (s.takeFetchesN n) := by
    induction n with
    | zero => exact fun _ h => h
    | succ n ih =>
      intro s h
      unfold State.takeFetchesN
      split
      · dsimp only
        split
        · exact ih _ (hfen _ _ (hfen _ _ (hmember _ _ (hfen _ _ h))))
        · exact ih _ (hfen _ _ h)
      · exact h
  exact hall 4 s h

/-! ### The test at the settling of a member (R122, R131) -/

/-- The holder is FULL, no round admits, and the pack is OPEN with no segment committable: what a commit test in an OPEN pack leaves, and
what the rest of its step keeps. -/
structure State.CommittedOut (id : SlotId) (s : State) : Prop where
  full : s.holderFull
  none : s.noneToAdmit
  opened : (s.slot id).state = .opened
  spent : s.committable id = .none

theorem State.CommittedOut.fetching {id : SlotId} {s : State} (h : State.CommittedOut id s) (r : MemberRef) :
    State.CommittedOut id (s.modMember r fun m => { m with state := .fetching }) where
  full := State.holderFull_congr h.full (State.setSlot_lif ..)
  none := State.noneToAdmit_congr h.none (State.setSlot_mgt ..) (State.setSlot_oft ..)
  opened := (s.modMember_slot_state r _ id).trans h.opened
  spent := State.committable_of_fetching h.spent

theorem State.CommittedOut.takeFetches {id : SlotId} {s : State} (h : State.CommittedOut id s) : State.CommittedOut id s.takeFetches :=
  State.takeFetches_keeps (fun _ _ ⟨hf, hn, ho, hs⟩ => ⟨hf, hn, ho, hs⟩) (fun _ r h => h.fetching r) h

theorem State.CommittedOut.settle {id : SlotId} {s : State} (h : State.CommittedOut id s) : s.settle.committable id = .none := by
  have hquiet : s.quietNow = false := State.quietNow_of_slot (id := id) (by rw [h.opened]; decide)
  rw [State.settle_noneToAdmit h.full h.none hquiet]
  exact h.spent

/-- The settling of a member of an OPEN pack leaves none of its segments committable (R122, R148). -/
theorem State.memberSettled_committedOut {s : State} {id : SlotId} (hfull : s.holderFull) (hnone : s.noneToAdmit)
    (ho : (s.slot id).state = .opened) : State.CommittedOut id (s.memberSettled id) := by
  have hclose : s.testClose id = s := State.testClose_of_ne_closing (by rw [ho]; decide)
  have hcommits : State.CommitsOnly id s (s.testCommit id) := s.commitRun_commitsOnly id 64
  obtain ⟨ms, p, hslot, -⟩ := hcommits.own
  rw [State.memberSettled, hclose]
  exact {
    full := State.holderFull_congr hfull hcommits.lif
    none := State.noneToAdmit_congr hnone hcommits.mgt hcommits.oft
    opened := by rw [hslot]; exact ho
    spent := s.testCommit_committable id }

end Sys2Proof.Machine

/-! ## The end of a fetch (R126, R131 to R134, R136) -/

namespace Sys2Proof.Machine

/-! ### What both endings leave alone -/

/-- From s to t a fetch of this member has ended, ahead of the tests of its settling: the medium, the run state, the candidate list and the
fetch order queue are as they were, and of the member's slot only the member table may differ. -/
structure State.FetchEnds (r : MemberRef) (s t : State) : Prop where
  lif : t.lif = s.lif
  oft : t.oft = s.oft
  mgt : t.mgt = s.mgt
  wake : t.wake = s.wake
  queue : t.fen.queue = s.fen.queue
  slot : ∃ ms, t.slot r.slot = { s.slot r.slot with members := ms }

theorem State.FetchEnds.of_bump {r : MemberRef} {k : Ctr} {s t : State} (h : State.FetchEnds r (s.bump k) t) : State.FetchEnds r s t :=
  ⟨h.lif, h.oft, h.mgt, h.wake, h.queue, h.slot⟩

theorem State.FetchEnds.of_withMem {r : MemberRef} {m : Memory} {s t : State} (h : State.FetchEnds r (s.withMem m) t) :
    State.FetchEnds r s t := ⟨h.lif, h.oft, h.mgt, h.wake, h.queue, h.slot⟩

/-- In an OPEN pack whose segment at the commit point is still being filled, with no member waiting for the fetch slot, nothing follows. -/
theorem State.FetchEnds.settle_open {r : MemberRef} {s t : State} (h : State.FetchEnds r s t) (hfull : s.holderFull) (hw : s.wake = false)
    (ho : (s.slot r.slot).state = .opened) (hseg : (s.slot r.slot).segmentOpen) (hq : s.fen.queue = []) :
    ((t.memberSettled r.slot).takeFetches).settle = t := by
  obtain ⟨ms, hslot⟩ := h.slot
  have hopened : (t.slot r.slot).state = .opened := by rw [hslot]; exact ho
  have hsettled : t.memberSettled r.slot = t := State.memberSettled_of_open hopened (by rw [hslot]; exact hseg)
  rw [hsettled, State.takeFetches, State.takeFetchesN_empty (h.queue.trans hq)]
  exact State.settle_inUse hfull h.lif (h.wake.trans hw) (id := r.slot) (by rw [hopened]; decide)

theorem State.FetchEnds.settle_committable {r : MemberRef} {s t : State} (h : State.FetchEnds r s t) (hfull : s.holderFull)
    (hnone : s.noneToAdmit) (ho : (s.slot r.slot).state = .opened) :
    ((t.memberSettled r.slot).takeFetches).settle.committable r.slot = none := by
  obtain ⟨ms, hslot⟩ := h.slot
  exact (State.memberSettled_committedOut (State.holderFull_congr hfull h.lif) (State.noneToAdmit_congr hnone h.mgt h.oft)
    (by rw [hslot]; exact ho)).takeFetches.settle

/-! ### VOID (R132 to R134, R136) -/

/-- A fetch ended with VOID, ahead of the tests of its settling: slot FREE, member VOID and released. -/
def State.fetchVoided (s : State) (i : Fin 4) (x : Fetch) (why : VoidReason) (reason : ReleaseReason) : State :=
  ((s.dropFetch i).modMember x.member fun m => { m with state := .void why, released := true }).queueRelease x.pair reason

theorem State.voidFetch_eq (s : State) (i : Fin 4) (x : Fetch) (why : VoidReason) (reason : ReleaseReason) :
    s.voidFetch i x why reason = ((s.fetchVoided i x why reason).memberSettled x.member.slot).takeFetches := rfl

theorem State.fetchVoided_ends (s : State) (i : Fin 4) (x : Fetch) (why : VoidReason) (reason : ReleaseReason) :
    State.FetchEnds x.member s (s.fetchVoided i x why reason) := by
  obtain ⟨releases, counters, heq⟩ := State.queueRelease_eq
    ((s.dropFetch i).modMember x.member fun m => { m with state := .void why, released := true }) x.pair reason
  rw [State.fetchVoided, heq]
  exact {
    lif := State.setSlot_lif ..
    oft := State.setSlot_oft ..
    mgt := State.setSlot_mgt ..
    wake := State.setSlot_wake ..
    queue := by simp [State.modMember, State.dropFetch, State.setFetch]
    slot := ⟨_, State.modMember_slot (s.dropFetch i) x.member _⟩ }

/-- A counter and a member record are changed in either order. -/
theorem State.modMember_bump (s : State) (k : Ctr) (r : MemberRef) (f : Member → Member) :
    (s.bump k).modMember r f = (s.modMember r f).bump k := by
  obtain ⟨slot, n⟩ := r
  cases slot <;> rfl

/-- A fetch slot FREE, and a release of its file made ready (R126, R187). -/
def State.fetchReleased (s : State) (i : Fin 4) (r : Release) : State :=
  (s.dropFetch i).withAru { s.aru with releases := s.aru.releases ++ [r] }

/-- With room in the release list, a fetch voided behind a count queues its release and is counted (R187). -/
theorem State.fetchVoided_counted (s : State) (i : Fin 4) (x : Fetch) (why : VoidReason) (reason : ReleaseReason) (k : Ctr)
    (hroom : s.aru.releases.length < 8200) : (s.bump k).fetchVoided i x why reason = State.bump (State.bump
      ((s.fetchReleased i ⟨x.pair, reason⟩).modMember x.member fun m => { m with state := .void why, released := true }) k)
        .releasesQueued := by
  rw [← State.modMember_bump]
  unfold State.fetchVoided State.queueRelease
  generalize x.member = r
  obtain ⟨slot, n⟩ := r
  cases slot <;> exact if_pos hroom

/-- The step of a fetch voided behind a count, in an OPEN pack whose segment at the commit point is still being filled. -/
theorem State.settle_voidFetch {s : State} {i : Fin 4} {x : Fetch} (hfull : s.holderFull) (hw : s.wake = false)
    (ho : (s.slot x.member.slot).state = .opened) (hseg : (s.slot x.member.slot).segmentOpen) (hq : s.fen.queue = [])
    (hroom : s.aru.releases.length < 8200) (why : VoidReason) (reason : ReleaseReason) (k : Ctr) :
    ((s.bump k).voidFetch i x why reason).settle = State.bump (State.bump
      ((s.fetchReleased i ⟨x.pair, reason⟩).modMember x.member fun m => { m with state := .void why, released := true }) k)
        .releasesQueued := by
  rw [State.voidFetch_eq, (State.fetchVoided_ends _ i x why reason).of_bump.settle_open hfull hw ho hseg hq,
    s.fetchVoided_counted i x why reason k hroom]

/-! ### DONE (R131) -/

/-- A fetch ended with DONE, ahead of the tests of its settling: member DONE, slot FREE. -/
def State.fetchCompleted (s : State) (i : Fin 4) (r : MemberRef) : State :=
  ((s.modMember r fun m => { m with state := .done }).bump .membersDone).dropFetch i

theorem State.fetchCompleted_ends (s : State) (i : Fin 4) (r : MemberRef) : State.FetchEnds r s (s.fetchCompleted i r) where
  lif := State.setSlot_lif ..
  oft := State.setSlot_oft ..
  mgt := State.setSlot_mgt ..
  wake := State.setSlot_wake ..
  queue := by simp [State.fetchCompleted, State.modMember, State.dropFetch, State.setFetch]
  slot := ⟨_, s.modMember_slot r _⟩

/-- A completion behind a count is counted behind it. -/
theorem State.fetchCompleted_counted (s : State) (i : Fin 4) (r : MemberRef) (k : Ctr) :
    (s.bump k).fetchCompleted i r =
      State.bump (State.bump ((s.dropFetch i).modMember r fun m => { m with state := .done }) k) .membersDone := by
  obtain ⟨slot, n⟩ := r
  cases slot <;> rfl

/-- The memory with the rest of a file's last data cell zeroed (R131). -/
def State.tailZeroed (s : State) (x : Fetch) : Memory :=
  Memory.writeBytes (s.fileByteAddr x.member.slot x.headN) x.size (List.replicate (512 * ((x.size + 511) / 512) - x.size) 0) s.mem

theorem State.completeFetch_done {s : State} {x : Fetch} {running : Word32} (h : ~~~ running = x.crc) (i : Fin 4) :
    s.completeFetch i x running =
      (((s.withMem (s.tailZeroed x)).fetchCompleted i x.member).memberSettled x.member.slot).takeFetches := by
  have htail : (if x.size % 512 ≠ 0 then s.writeFile x.member.slot x.headN x.size (List.replicate (512 - x.size % 512) 0) else s) =
      s.withMem (s.tailZeroed x) := by
    unfold State.tailZeroed
    split
    · rw [State.writeFile_eq, show 512 * ((x.size + 511) / 512) - x.size = 512 - x.size % 512 by omega]
    · rw [show 512 * ((x.size + 511) / 512) - x.size = 0 by omega]
      rfl
  unfold State.completeFetch
  rw [if_pos (show crcFinal running = x.crc from h), htail]
  rfl

theorem State.completeFetch_other {s : State} {x : Fetch} {running : Word32} (h : ~~~ running ≠ x.crc) (i : Fin 4) :
    s.completeFetch i x running = (s.bump .checksumVoids).voidFetch i x .checksum .checksum := if_neg h

section
variable {s : State} {i : Fin 4} {x : Fetch} {running : Word32}

/-- The step of a completion behind a count, with the offered check value, where neither a close nor a commit follows (R131). -/
theorem State.settle_completeFetch_done (hcrc : ~~~ running = x.crc) (hfull : s.holderFull) (hw : s.wake = false)
    (ho : (s.slot x.member.slot).state = .opened) (hseg : (s.slot x.member.slot).segmentOpen) (hq : s.fen.queue = []) (k : Ctr) :
    ((s.bump k).completeFetch i x running).settle = State.bump (State.bump
      (((s.withMem (s.tailZeroed x)).dropFetch i).modMember x.member fun m => { m with state := .done }) k) .membersDone := by
  rw [State.completeFetch_done hcrc,
    (State.fetchCompleted_ends _ i x.member).of_withMem.of_bump.settle_open hfull hw ho hseg hq]
  exact (s.withMem (s.tailZeroed x)).fetchCompleted_counted i x.member k

/-- The same step with another check value (R132). -/
theorem State.settle_completeFetch_other (hcrc : ~~~ running ≠ x.crc) (hfull : s.holderFull) (hw : s.wake = false)
    (ho : (s.slot x.member.slot).state = .opened) (hseg : (s.slot x.member.slot).segmentOpen) (hq : s.fen.queue = [])
    (hroom : s.aru.releases.length < 8200) (k : Ctr) :
    ((s.bump k).completeFetch i x running).settle = State.bump (State.bump (State.bump
      ((s.fetchReleased i ⟨x.pair, .checksum⟩).modMember x.member fun m => { m with state := .void .checksum, released := true }) k)
        .checksumVoids) .releasesQueued := by
  rw [State.completeFetch_other hcrc, State.settle_voidFetch (s := s.bump k) hfull hw ho hseg hq hroom]
  exact congrArg (fun t => (State.bump t .checksumVoids).bump .releasesQueued)
    (State.modMember_bump (s.fetchReleased i ⟨x.pair, .checksum⟩) k x.member _)

end

/-! ### The last DATA (R129 to R132) -/

/-- The memory with a DATA's payload written, each byte to its own address (R130). -/
def State.payloadWritten (s : State) (x : Fetch) (d : DataBody) : Memory :=
  Memory.writeBytes (s.fileByteAddr x.member.slot x.headN) d.offset d.payload s.mem

section
variable {s : State} {source : Station} {d : DataBody} {i : Fin 4} {x : Fetch}

/-- The last DATA of a file is accepted and completes its fetch. -/
theorem State.dataArrives_last (h : s.receivingSlot ⟨source, d.ticket⟩ = some (i, x)) (ho : d.offset = x.received)
    (hs : d.offset + d.payload.length = x.size) (hl : d.last = true) :
    s.dataArrives source d =
      ((s.withMem (s.payloadWritten x d)).bump .dataAccepted).completeFetch i x (crcRun x.running d.payload) := by
  unfold State.dataArrives
  simp only [h]
  rw [if_neg (by simp [ho]), if_neg (by omega), if_neg (by omega), State.acceptData, State.writeFile_eq, if_pos hl]
  rfl

/-- The last DATA ends its fetch one way or the other. -/
theorem State.dataArrives_ends (h : s.receivingSlot ⟨source, d.ticket⟩ = some (i, x)) (ho : d.offset = x.received)
    (hs : d.offset + d.payload.length = x.size) (hl : d.last = true) :
    ∃ t, State.FetchEnds x.member s t ∧ s.dataArrives source d = (t.memberSettled x.member.slot).takeFetches := by
  rw [State.dataArrives_last h ho hs hl]
  by_cases hcrc : ~~~ crcRun x.running d.payload = x.crc
  · exact ⟨_, (State.fetchCompleted_ends _ i x.member).of_withMem.of_bump.of_withMem, State.completeFetch_done hcrc i⟩
  · exact ⟨_, (State.fetchVoided_ends _ i x .checksum .checksum).of_bump.of_bump.of_withMem, State.completeFetch_other hcrc i⟩

/-! ### The bytes of a completed file (R130, R131) -/

theorem State.payloadWritten_here {j a : Nat} {b : Byte} (hj : d.payload[j]? = some b)
    (ha : s.fileByteAddr x.member.slot x.headN (d.offset + j) = some a) : (s.payloadWritten x d).read a = b :=
  Memory.read_writeBytes_here _ (fun _ _ _ => State.fileByteAddr_inj) hj ha

theorem State.payloadWritten_other {a : Nat}
    (h : ∀ j, j < d.payload.length → s.fileByteAddr x.member.slot x.headN (d.offset + j) ≠ some a) :
    (s.payloadWritten x d).read a = s.mem.read a := Memory.read_writeBytes_other _ h

theorem State.tailZeroed_here {y a : Nat} (hlo : x.size ≤ y) (hhi : y < 512 * ((x.size + 511) / 512))
    (ha : s.fileByteAddr x.member.slot x.headN y = some a) : (s.tailZeroed x).read a = 0 :=
  Memory.read_writeBytes_here (j := y - x.size) _ (fun _ _ _ => State.fileByteAddr_inj)
    (List.getElem?_replicate_of_lt (by omega)) (by rw [Nat.add_sub_cancel' hlo]; exact ha)

theorem State.tailZeroed_other {a : Nat}
    (h : ∀ y, x.size ≤ y → y < 512 * ((x.size + 511) / 512) → s.fileByteAddr x.member.slot x.headN y ≠ some a) :
    (s.tailZeroed x).read a = s.mem.read a :=
  Memory.read_writeBytes_other _ fun j hj => h _ (Nat.le_add_right ..) (by rw [List.length_replicate] at hj; omega)

end

/-- Settles O27: the two endings apart; the payload's bytes and the zeroed rest of the last data cell have addresses of their own. -/
theorem dataCompletes : Obligations.DataCompletes := by
  intro f sender d i x s hacc hread hfull hslot hoff hsize hlast ho hseg hq hroom freed a
  have harrives := State.dataArrives_last (s := a) hslot hoff hsize hlast
  rw [exec_data_here hacc hread, harrives]
  have hround : x.size ≤ 512 * ((x.size + 511) / 512) := by omega
  have hpayload (p : Nat) (hp : ∀ y, d.offset ≤ y → y < 512 * ((x.size + 511) / 512) →
      s.fileByteAddr x.member.slot x.headN y ≠ some p) : (s.payloadWritten x d).read p = s.mem.read p :=
    State.payloadWritten_other fun j hj => hp _ (Nat.le_add_right ..) (by omega)
  by_cases hcrc : ~~~ crcRun x.running d.payload = x.crc
  · refine ⟨(s.withMem (s.payloadWritten x d)).tailZeroed x, fun _ => ?_, fun h => absurd hcrc h, fun j b p hj hp => ?_,
      fun y p _ => State.tailZeroed_here (s := s.withMem (s.payloadWritten x d)), fun p hp => ?_⟩
    · exact congrArg Host.Outcome.next
        (State.settle_completeFetch_done (s := a.withMem (s.payloadWritten x d)) hcrc hfull rfl ho hseg hq .dataAccepted)
    · obtain ⟨hj', -⟩ := List.getElem?_eq_some_iff.1 hj
      have hkept := State.tailZeroed_other (s := s.withMem (s.payloadWritten x d)) (x := x) (a := p) fun y hy _ hyp => by
        have := State.fileByteAddr_inj (s := s) hyp hp
        omega
      exact hkept.trans (State.payloadWritten_here hj hp)
    · exact (State.tailZeroed_other (s := s.withMem (s.payloadWritten x d)) fun y hy => hp y (by omega)).trans (hpayload p hp)
  · refine ⟨s.payloadWritten x d, fun h => absurd h hcrc, fun _ => ?_, fun j b p => State.payloadWritten_here,
      fun y p h => absurd h hcrc, hpayload⟩
    exact congrArg Host.Outcome.next
      (State.settle_completeFetch_other (s := a.withMem (s.payloadWritten x d)) hcrc hfull rfl ho hseg hq hroom .dataAccepted)

/-! ### VOID(FETCH) (R129, R133, R134) -/

section
variable {s : State} {source : Station} {d : DataBody} {i : Fin 4} {x : Fetch}

theorem State.dataArrives_gap (h : s.receivingSlot ⟨source, d.ticket⟩ = some (i, x)) (ho : d.offset ≠ x.received) :
    s.dataArrives source d = (s.bump .fetchGaps).voidFetch i x .fetch .fetch := by
  simp only [State.dataArrives, h, if_pos ho]

theorem State.dataArrives_overrun (h : s.receivingSlot ⟨source, d.ticket⟩ = some (i, x)) (ho : d.offset = x.received)
    (hs : x.size < d.offset + d.payload.length) : s.dataArrives source d = (s.bump .fetchOverruns).voidFetch i x .fetch .fetch := by
  simp only [State.dataArrives, h, if_neg (not_not_intro ho), if_pos hs]

theorem State.dataArrives_short (h : s.receivingSlot ⟨source, d.ticket⟩ = some (i, x)) (ho : d.offset = x.received)
    (hs : d.offset + d.payload.length < x.size) (hl : d.last = true) :
    s.dataArrives source d = (s.bump .fetchShorts).voidFetch i x .fetch .fetch := by
  simp only [State.dataArrives, h, if_neg (not_not_intro ho), if_neg (Nat.lt_asymm hs), if_pos (And.intro hl hs)]

/-- The expiry of a RECEIVING slot is judged by its deadline (R134, log entry 23). -/
theorem State.fetchTimer_receiving {now e : Nat} (hx : s.fen.slots[i] = some x) (he : x.phase = .receiving e)
    (hn : s.mgt.clock = some now) :
    s.fetchTimer i = if e ≤ now then ((s.bump .fetchTimeouts).voidFetch i x .fetch .fetch).settle else s := by
  have hdeadline : s.fetchDeadline i = some e := by simp only [State.fetchDeadline, hx, he]
  simp only [State.fetchTimer, hdeadline, State.due_some hn, decide_eq_true_eq, State.fetchTimesOut, hx]

end

/-- Settles O28: each check that fails, and the deadline, void the fetch behind a count of its own. -/
theorem fetchVoided : Obligations.FetchVoided := by
  intro f sender d i x s hfull ho hseg hq hroom voided a
  refine ⟨fun hacc hread hslot => ?_, fun now e hx he hn => ⟨fun hdue => ?_, fun hearly => ?_⟩⟩
  · have hstep (k : Ctr) (hk : a.dataArrives sender d = (a.bump k).voidFetch i x .fetch .fetch) :
        exec (.data f) s = .next (voided a k) := by
      rw [exec_data_here hacc hread]
      exact congrArg Host.Outcome.next
        ((congrArg State.settle hk).trans (State.settle_voidFetch (s := a) hfull rfl ho hseg hq hroom .fetch .fetch k))
    exact ⟨fun hoff => hstep _ (State.dataArrives_gap hslot hoff),
      fun hoff hover => hstep _ (State.dataArrives_overrun hslot hoff hover),
      fun hoff hshort hlast => hstep _ (State.dataArrives_short hslot hoff hshort hlast)⟩
  · refine congrArg Host.Outcome.next ((State.fetchTimer_receiving (s := s.begin) hx he hn).trans ((if_pos hdue).trans ?_))
    exact State.settle_voidFetch (s := s.begin) hfull rfl ho hseg hq hroom .fetch .fetch .fetchTimeouts
  · exact congrArg Host.Outcome.next ((State.fetchTimer_receiving (s := s.begin) hx he hn).trans (if_neg (Nat.not_le.2 hearly)))

/-- Settles O34: R147 condition by condition, the run of at most 64 commits, and the last DATA's settling, whichever way it goes. -/
theorem commitTest : Obligations.CommitTest := by
  refine ⟨fun s id => ⟨fun k b => ?_, fun h => State.commitRun_of_none h 64, fun k b => State.testCommit_of_some,
    s.testCommit_committable id⟩, fun f sender d i x s hacc hread hslot hoff hsize hlast ho hfull hnone => ?_⟩
  · rw [State.committable_iff, SlotState.commits_iff, Slot.segmentReady_iff, and_assoc]
  · obtain ⟨u, hends, harrives⟩ := State.dataArrives_ends (s := s.begin.bump .framesAccepted) hslot hoff hsize hlast
    refine ⟨_, exec_data_here hacc hread, ?_⟩
    rw [harrives]
    exact hends.settle_committable hfull hnone ho

end Sys2Proof.Machine

/-! ## The self-test of the pool (R155, R202) -/

namespace Sys2Proof.Machine

/-- A pass fails exactly where it read a byte of the buffer that is not the pattern's (R155). -/
theorem readsBackBad_iff (pattern : Byte) (reads : List Host.Cell) : readsBackBad pattern reads = true ↔ deviates pattern reads := by
  simp only [readsBackBad, List.any_eq_true, Bool.and_eq_true, decide_eq_true_eq]
  rfl

section
variable (s : State) (i : Fin 64) (read55 readAA : List Host.Cell)

/-! ### The test of one buffer -/

/-- What a failed buffer's test leaves (R155). -/
theorem State.testBuffer_failed (h : deviates 0x55#8 read55 ∨ deviates 0xAA#8 readAA) :
    s.testBuffer i read55 readAA =
      ((s.withMem (s.mem.clear (cellAddr i 0) bufferBytes)).setBuffer i ⟨.retired, none⟩).bump .selfTestRetirements :=
  if_pos (by simpa [readsBackBad_iff] using h)

/-- What a sound buffer's test leaves (R155). -/
theorem State.testBuffer_passed (h : ¬ (deviates 0x55#8 read55 ∨ deviates 0xAA#8 readAA)) :
    s.testBuffer i read55 readAA = s.withMem (s.mem.clear (cellAddr i 0) bufferBytes) :=
  if_neg (by simpa [readsBackBad_iff] using h)

/-- Either outcome clears the buffer's bytes, and leaves the other buffers, the other counters and the other blocks. -/
theorem State.testBuffer_frame :
    let t := s.testBuffer i read55 readAA
    t.mem = s.mem.clear (cellAddr i 0) bufferBytes ∧ (∀ j, j ≠ i → t.buffer j = s.buffer j) ∧ t.spl.promised = s.spl.promised ∧
      (∀ c, c ≠ .selfTestRetirements → t.count c = s.count c) ∧ t.mgt = s.mgt ∧ t.lif = s.lif ∧ t.oft = s.oft ∧
      t.pvw = s.pvw ∧ t.sel = s.sel ∧ t.pkb = s.pkb ∧ t.fen = s.fen ∧ t.drn = s.drn ∧ t.aru = s.aru := by
  by_cases h : deviates 0x55#8 read55 ∨ deviates 0xAA#8 readAA
  · rw [State.testBuffer_failed s i read55 readAA h]
    refine ⟨by simp, fun j hj => State.setBuffer_buffer_other _ hj _, State.setBuffer_promised _ _ _, fun c hc => ?_, ?_⟩
    · rw [State.count_bump_other _ (Ne.symm hc)]
      exact State.count_congr (by simp) c
    · simp
  · rw [State.testBuffer_passed s i read55 readAA h]
    exact ⟨rfl, fun _ _ => rfl, rfl, fun _ _ => rfl, rfl, rfl, rfl, rfl, rfl, rfl, rfl, rfl, rfl⟩

/-- A failed buffer is RETIRED and counted (R155). -/
theorem State.testBuffer_retires (h : deviates 0x55#8 read55 ∨ deviates 0xAA#8 readAA) (hfree : (s.buffer i).state ≠ .retired) :
    (s.testBuffer i read55 readAA).buffer i = ⟨.retired, none⟩ ∧
      (s.testBuffer i read55 readAA).count .selfTestRetirements = saturatingNext (s.count .selfTestRetirements) := by
  rw [State.testBuffer_failed s i read55 readAA h]
  constructor
  · rw [State.buffer_congr (State.bump_spl _ _), State.setBuffer_buffer, if_pos rfl]
    exact hfree
  · rw [State.count_bump]
    exact congrArg saturatingNext (State.count_congr (by simp) _)

/-- A sound buffer stays as it was, uncounted (R155). -/
theorem State.testBuffer_keeps (h : ¬ (deviates 0x55#8 read55 ∨ deviates 0xAA#8 readAA)) :
    (s.testBuffer i read55 readAA).buffer i = s.buffer i ∧
      (s.testBuffer i read55 readAA).count .selfTestRetirements = s.count .selfTestRetirements := by
  rw [State.testBuffer_passed s i read55 readAA h]
  exact ⟨rfl, rfl⟩

/-- A cleared buffer reads 0xAA in each of its bytes. -/
theorem Memory.read_clear_buffer (m : Memory) {a : Nat} (hlo : 1048576 * i.val ≤ a) (hhi : a < 1048576 * (i.val + 1)) :
    (m.clear (cellAddr i 0) bufferBytes).read a = 0xAA#8 :=
  m.read_clear_here _ _ a (by unfold cellAddr bufferBytes; omega)

/-- Clearing a buffer leaves every byte outside it. -/
theorem Memory.read_clear_outside (m : Memory) {a : Nat} (h : a < 1048576 * i.val ∨ 1048576 * (i.val + 1) ≤ a) :
    (m.clear (cellAddr i 0) bufferBytes).read a = m.read a :=
  m.read_clear_other _ _ a (by unfold cellAddr bufferBytes; omega)

/-! ### The command -/

/-- The state a test leaves behind it: the next buffer's turn, and CONFIG after the last (R202). -/
def State.afterTest (s : State) (i : Fin 64) : State :=
  (s.withSpl { s.spl with tested := i.val + 1 }).withMgt { s.mgt with run := if i.val = 63 then .config else .selftest }

variable {s i}

theorem State.selfTest_next (hrun : s.mgt.run = .selftest) (hnext : s.spl.tested = i.val) :
    s.selfTest read55 readAA = (s.testBuffer i read55 readAA).afterTest i := by
  obtain ⟨-, -, -, -, hmgt, -⟩ := s.testBuffer_frame i read55 readAA
  have hrun' : (s.testBuffer i read55 readAA).mgt.run = .selftest := hmgt ▸ hrun
  unfold State.selfTest
  rw [dif_pos ⟨hrun, hnext ▸ i.isLt⟩]
  simp only [hnext]
  generalize s.testBuffer i read55 readAA = t at hrun' ⊢
  unfold State.afterTest
  split
  · rfl
  · rw [← hrun']
    rfl

end

/-- Settles O4: the next buffer's test, and behind it the step to the next buffer or to CONFIG. -/
theorem bufferSelfTest : Obligations.BufferSelfTest := by
  intro read55 readAA s i hrun hnext hfree
  have hexec : exec (.bufferSelfTest read55 readAA) s = .next ((s.begin.testBuffer i read55 readAA).afterTest i) :=
    congrArg Host.Outcome.next (State.selfTest_next (s := s.begin) read55 readAA hrun hnext)
  have hretires := s.begin.testBuffer_retires i read55 readAA
  have hkeeps := s.begin.testBuffer_keeps i read55 readAA
  obtain ⟨hmem, hbuffers, hpromised, hcounts, hmgt, hblocks⟩ := s.begin.testBuffer_frame i read55 readAA
  refine ⟨_, hexec, rfl, fun hbad => ?_, fun h55 hAA => ?_, hbuffers, hpromised, hcounts,
    fun a hlo hhi => ?_, fun a ha => ?_, ?_, hblocks⟩
  · exact hretires hbad (show (s.buffer i).state ≠ .retired by simp [hfree])
  · exact (hkeeps (not_or.2 ⟨h55, hAA⟩)).imp_left fun hkept => hkept.trans hfree
  · exact (congrArg (Memory.read · a) hmem).trans (Memory.read_clear_buffer i _ hlo hhi)
  · exact (congrArg (Memory.read · a) hmem).trans (Memory.read_clear_outside i _ ha)
  · exact congrArg (fun m : Mgt => { m with run := if i.val = 63 then RunState.config else .selftest }) hmgt

end Sys2Proof.Machine

/-! ## READY (R164) and the ABANDON that waits for it (R165, R173) -/

namespace Sys2Proof.Machine

section
variable {s : State}

theorem State.receiveReady_up (h : s.drn.port = .up) : s.receiveReady [] = s.bump .repeatedReady := by
  simp [State.receiveReady, h]

theorem State.receiveReady_down (h : s.drn.port = .down) :
    s.receiveReady [] = ((s.withDrn { s.drn with port := .up }).bump .portUp).settle := by
  simp [State.receiveReady, h]

/-- With no command waiting and no report of R154 due, a step is the next issue, if a row applies (R165). -/
theorem step_nextIssue {t : State} (hp : s.pending = []) (hhalt : s.haltDue = false) (hissue : s.begin.nextIssue = some t) :
    step s = .next t.settle := by
  simp [step, hp, State.idle, hhalt, hissue]

end

/-- Settles O37: behind a FULL holder, with no wake-up and QUIET not due, nothing follows what the port itself does. -/
theorem ready : Obligations.Ready := by
  intro s hfull hquiet
  refine ⟨fun hup => ?_, fun hdown => ?_, fun r hup ha hhalt hp => ?_⟩
  · exact congrArg Host.Outcome.next (State.receiveReady_up (s := s.begin) hup)
  · refine congrArg Host.Outcome.next ((State.receiveReady_down (s := s.begin) hdown).trans ?_)
    exact State.settle_unwoken (s := (s.begin.withDrn _).bump _) hfull rfl hquiet
  · have hissue := State.nextIssue_abandon (s := s.begin) hup ha
    rw [State.issueAbandon_waiting (s := s.begin) ha] at hissue
    rw [step_nextIssue hp hhalt hissue]
    exact congrArg Host.Outcome.next (State.settle_unwoken (s := ((s.begin.withDrn _).emit _).bump _) hfull rfl hquiet)

end Sys2Proof.Machine

/-! ## Stray and malformed messages of the mover (R162, R169, R171) -/

namespace Sys2Proof.Machine

section
variable {s : State}

/-! ### The fields of a message -/

theorem readStored_eq_none (fields : List Byte) : readStored fields = none ↔ fields.length ≠ 12 := by
  simp [readStored]

theorem readFault_eq_none (fields : List Byte) :
    readFault fields = none ↔ fields.length ≠ 9 ∨ (fieldAt fields 8 1 ≠ 1 ∧ fieldAt fields 8 1 ≠ 2) := by
  unfold readFault
  split
  · next h => split <;> simp_all
  · next h => simp [h]

/-- The code of a FAULT's reason (R162). -/
def FaultReason.code : FaultReason → Nat
  | .media => 1
  | .offline => 2

/-- The fields of a FAULT as the mover writes them (R162). -/
theorem readFault_le (epoch seq : Word32) (reason : FaultReason) :
    readFault (le 4 epoch.toNat ++ le 4 seq.toNat ++ le 1 reason.code) = some ⟨epoch, seq, reason⟩ := by
  have hreason : fieldAt (le 4 epoch.toNat ++ le 4 seq.toNat ++ le 1 reason.code) 8 1 = reason.code := by
    rw [fieldAt_skip _ _ _ _ (by simp)]
    cases reason <;> rfl
  have hepoch : ticketAt (le 4 epoch.toNat ++ le 4 seq.toNat ++ le 1 reason.code) 0 = epoch := ticketAt_of_fieldAt <| by
    rw [List.append_assoc, fieldAt_front]
    exact Nat.mod_eq_of_lt epoch.isLt
  have hseq : ticketAt (le 4 epoch.toNat ++ le 4 seq.toNat ++ le 1 reason.code) 4 = seq := ticketAt_of_fieldAt <| by
    rw [List.append_assoc, fieldAt_skip _ _ _ _ (by simp), le_length, fieldAt_front]
    exact Nat.mod_eq_of_lt seq.isLt
  unfold readFault
  rw [if_pos (by simp), hreason, hepoch, hseq]
  cases reason <;> rfl

/-! ### What is counted and nothing more -/

theorem State.receiveStored_malformed {fields : List Byte} (h : readStored fields = none) :
    s.receiveStored fields = s.bump .malformedDrainMessages := by
  rw [State.receiveStored, h]

theorem State.receiveFault_malformed {fields : List Byte} (h : readFault fields = none) :
    s.receiveFault fields = s.bump .malformedDrainMessages := by
  rw [State.receiveFault, h]

theorem State.receiveReady_malformed {fields : List Byte} (h : fields ≠ []) :
    s.receiveReady fields = s.bump .malformedDrainMessages := by
  simp [State.receiveReady, h]

theorem WindowMsg.named_iff (w : WindowMsg) (number : Word32) : w.named number = true ↔
    (w = .packEnd ∧ number = storedEnd) ∨ (w = .segment number.toNat ∧ number ≠ storedEnd) := by
  cases w with
  | segment k => simp [WindowMsg.named, and_comm, @eq_comm _ k]
  | packEnd => simp [WindowMsg.named]

/-- A STORED is stray unless it names the current pack and the oldest message of the window (R169). -/
theorem State.receiveStored_stray {fields : List Byte} {b : StoredBody} (hread : readStored fields = some b)
    (h : ∀ c w rest, s.drn.current = some c → s.drn.window = w :: rest → b.epoch = c.epoch → b.seq = c.seq → ¬ w.named b.segment = true) :
    s.receiveStored fields = s.bump .strayStored := by
  have hmatch : s.storedMatch b = none := by
    unfold State.storedMatch
    split
    · next c w rest hc hw => exact if_neg fun ⟨hepoch, hseq, hnamed⟩ => h c w rest hc hw hepoch hseq hnamed
    · rfl
  simp only [State.receiveStored, hread, hmatch]

/-- A FAULT is stray unless it names the current pack (R171). -/
theorem State.receiveFault_stray {fields : List Byte} {b : FaultBody} (hread : readFault fields = some b)
    (h : ∀ c, s.drn.current = some c → ¬ (b.epoch = c.epoch ∧ b.seq = c.seq)) : s.receiveFault fields = s.bump .strayFaults := by
  have hmatch : s.faultMatch b = none := by
    unfold State.faultMatch
    split
    · next c hc => exact if_neg (h c hc)
    · rfl
  simp only [State.receiveFault, hread, hmatch]

/-- A message of a bad length, reason or kind is counted, whichever command brings it (R162). -/
theorem State.receiveMessage_malformed {message : List Byte} (h : malformedMessage message = true) :
    s.receiveMessage message = s.bump .malformedDrainMessages := by
  cases message with
  | nil => rfl
  | cons kind fields =>
    unfold State.receiveMessage
    unfold malformedMessage at h
    dsimp only at h ⊢
    split at h
    · next hk => rw [if_pos hk, State.receiveStored_malformed (Option.isNone_iff_eq_none.1 h)]
    · next hk =>
      rw [if_neg hk]
      split at h
      · next hk => rw [if_pos hk, State.receiveFault_malformed (Option.isNone_iff_eq_none.1 h)]
      · next hk =>
        rw [if_neg hk]
        split at h
        · next hk => rw [if_pos hk, State.receiveReady_malformed (by simpa using h)]
        · next hk => rw [if_neg hk]

end

/-- Settles O40: what names nothing outstanding is stray, and what cannot be read is malformed. -/
theorem drainDiscards : Obligations.DrainDiscards := by
  intro s
  refine ⟨fun epoch seq number h => ?_, fun epoch seq reason hreason h => ?_, fun fields h => ?_, fun fields h => ?_, fun fields h => ?_,
    fun message h => ?_⟩ <;> refine congrArg Host.Outcome.next ?_
  · exact State.receiveStored_stray (s := s.begin) (readStored_le epoch seq number) fun c w rest hc hw hepoch hseq hnamed =>
      h c w rest hc hw hepoch hseq ((w.named_iff number).1 hnamed)
  · obtain ⟨r, rfl⟩ : ∃ r : FaultReason, reason = r.code := by
      rcases hreason with rfl | rfl
      · exact ⟨.media, rfl⟩
      · exact ⟨.offline, rfl⟩
    exact State.receiveFault_stray (s := s.begin) (readFault_le epoch seq r) h
  · exact State.receiveStored_malformed ((readStored_eq_none fields).2 h)
  · exact State.receiveFault_malformed ((readFault_eq_none fields).2 h)
  · exact State.receiveReady_malformed h
  · exact State.receiveMessage_malformed h

end Sys2Proof.Machine

/-! ## What leaves the drain engine as it is but for other packs' segments -/

namespace Sys2Proof.Machine

/-! ### The relation -/

/-- What an abort is seen by at the drain port: the engine without its queue, what has left the part, and the counters of chapter 9 that an
abort moves (R171 to R173). -/
structure DrainFace where
  station      : Station
  drn          : Drn
  emitted      : List Emission
  mediaFaults  : Counter
  abandonsSent : Counter

/-- The drain engine of a state as an abort in it is seen. -/
def State.drainFace (s : State) : DrainFace where
  station := s.lif.station
  drn := { s.drn with queue := [] }
  emitted := s.emitted
  mediaFaults := s.count .mediaFaults
  abandonsSent := s.count .abandonsSent

/-- From s to t, a slot whose pack commits no segments gets none that does, and the drain engine changes by segments of other packs that
join its queue alone (R147, R163). -/
def State.DrainKept (id : SlotId) (s t : State) : Prop :=
  (s.slot id).state.commits = false →
    (t.slot id).state.commits = false ∧ t.drainFace = s.drainFace ∧ ∀ q ∈ t.drn.queue, q.slot = id → q ∈ s.drn.queue

section
variable {id : SlotId} {s t u : State}

theorem State.DrainKept.refl (s : State) : s.DrainKept id s := fun h => ⟨h, rfl, fun _ hq _ => hq⟩

theorem State.DrainKept.trans (h : s.DrainKept id t) (k : t.DrainKept id u) : s.DrainKept id u := fun hs => by
  obtain ⟨ht, hface, hqueue⟩ := h hs
  obtain ⟨hu, kface, kqueue⟩ := k ht
  exact ⟨hu, kface.trans hface, fun q hq e => hqueue q (kqueue q hq e) e⟩

theorem State.DrainKept.ite {p : Prop} [Decidable p] (ht : p → s.DrainKept id t) (hu : ¬ p → s.DrainKept id u) :
    s.DrainKept id (if p then t else u) := by
  split
  · exact ht ‹_›
  · exact hu ‹_›

theorem State.DrainKept.foldl {α : Type} {f : State → α → State} (h : ∀ (s : State) (a : α), s.DrainKept id (f s a)) (l : List α) (s : State) :
    s.DrainKept id (l.foldl f s) := by
  induction l generalizing s with
  | nil => exact .refl s
  | cons a l ih => exact (h s a).trans (ih _)

theorem State.drainFace_congr (hl : t.lif = s.lif) (hd : t.drn = s.drn) (he : t.emitted = s.emitted) (hc : t.counters = s.counters) :
    t.drainFace = s.drainFace := by
  simp only [State.drainFace, hl, hd, he, State.count_congr hc]

/-- What touches neither the slots nor the drain engine. -/
theorem State.DrainKept.of_pkb (hp : t.pkb = s.pkb) (hf : t.drainFace = s.drainFace) (hq : t.drn.queue = s.drn.queue) : s.DrainKept id t :=
  fun h => ⟨by rwa [State.slot_of_pkb hp], hf, fun _ h _ => hq ▸ h⟩

/-- A slot whose pack commits is not the one in question. -/
theorem State.DrainKept.of_commits {j : SlotId} (h : (s.slot j).state.commits = true) (k : j ≠ id → s.DrainKept id t) : s.DrainKept id t :=
  fun hs => k (fun e => by rw [← e, h] at hs; cases hs) hs

theorem State.DrainKept.of_state {j : SlotId} {x : SlotState} (h : (s.slot j).state = x) (hx : x.commits = true)
    (k : j ≠ id → s.DrainKept id t) : s.DrainKept id t := .of_commits (h ▸ hx) k

theorem State.FreesOnly.drainKept (h : s.FreesOnly t) : s.DrainKept id t := by
  obtain ⟨⟨bufs, w, rfl⟩, -⟩ := h
  exact .of_pkb rfl rfl rfl

end

section
variable {id : SlotId} (s : State)

/-! ### Shared operations -/

theorem State.bump_drainFace {c : Ctr} (h : c ≠ .mediaFaults ∧ c ≠ .abandonsSent) : (s.bump c).drainFace = s.drainFace := by
  simp [State.drainFace, State.count_bump_other s h.1, State.count_bump_other s h.2]

theorem State.setSlot_drainFace (j : SlotId) (x : Slot) : (s.setSlot j x).drainFace = s.drainFace :=
  State.drainFace_congr (by simp) (by simp) (by simp) (by simp)

theorem State.bump_drainKept {c : Ctr} (h : c ≠ .mediaFaults ∧ c ≠ .abandonsSent) : s.DrainKept id (s.bump c) :=
  .of_pkb rfl (s.bump_drainFace h) rfl

theorem State.bumpBy_drainKept {c : Ctr} (h : c ≠ .mediaFaults ∧ c ≠ .abandonsSent) (n : Nat) : s.DrainKept id (s.bumpBy c n) := by
  induction n generalizing s with
  | zero => exact .refl s
  | succ n ih => exact (s.bump_drainKept h).trans (ih _)

theorem State.withWake_drainKept (b : Bool) : s.DrainKept id (s.withWake b) := .of_pkb rfl rfl rfl
theorem State.wakeUp_drainKept : s.DrainKept id s.wakeUp := .of_pkb rfl rfl rfl
theorem State.recomputePromised_drainKept : s.DrainKept id s.recomputePromised := .of_pkb rfl rfl rfl
theorem State.withPvw_drainKept (x : Pvw) : s.DrainKept id (s.withPvw x) := .of_pkb rfl rfl rfl
theorem State.withSel_drainKept (x : Sel) : s.DrainKept id (s.withSel x) := .of_pkb rfl rfl rfl
theorem State.withFen_drainKept (x : Fen) : s.DrainKept id (s.withFen x) := .of_pkb rfl rfl rfl
theorem State.withAru_drainKept (x : Aru) : s.DrainKept id (s.withAru x) := .of_pkb rfl rfl rfl
theorem State.withMem_drainKept (x : Memory) : s.DrainKept id (s.withMem x) := .of_pkb rfl rfl rfl
theorem State.withMgt_drainKept (x : Mgt) : s.DrainKept id (s.withMgt x) := .of_pkb rfl rfl rfl
theorem State.hold_drainKept (bytes : List Byte) : s.DrainKept id (s.hold bytes) := .of_pkb rfl rfl rfl

theorem State.queueRelease_drainKept (p : FilePair) (reason : ReleaseReason) : s.DrainKept id (s.queueRelease p reason) :=
  .ite (fun _ => (s.withAru_drainKept _).trans (State.bump_drainKept _ (by decide))) fun _ => s.bump_drainKept (by decide)

theorem State.queueReleases_drainKept (rs : List Release) : s.DrainKept id (s.queueReleases rs) :=
  .foldl (fun s r => s.queueRelease_drainKept r.pair r.reason) rs s

/-- A slot is written: another one, or this one with a pack that commits nothing it did not. -/
theorem State.setSlot_drainKept (j : SlotId) (x : Slot)
    (h : j = id → (s.slot id).state.commits = false → x.state.commits = false) : s.DrainKept id (s.setSlot j x) := fun hs => by
  refine ⟨?_, s.setSlot_drainFace j x, fun q hq _ => by simpa using hq⟩
  rw [State.setSlot_slot_eq]
  split
  · next e => exact h e.symm hs
  · exact hs

theorem State.setSlot_drainKept_other {j : SlotId} (h : j ≠ id) (x : Slot) : s.DrainKept id (s.setSlot j x) :=
  s.setSlot_drainKept j x fun e => absurd e h

theorem State.setSlot_drainKept_idle (j : SlotId) {x : Slot} (h : x.state.commits = false) : s.DrainKept id (s.setSlot j x) :=
  s.setSlot_drainKept j x fun _ _ => h

theorem State.setSlot_drainKept_same {j : SlotId} {x : Slot} (h : x.state = (s.slot j).state) : s.DrainKept id (s.setSlot j x) :=
  s.setSlot_drainKept j x fun e hs => by rw [h, e, hs]

theorem State.clearSlot_drainKept (j : SlotId) : s.DrainKept id (s.clearSlot j) :=
  (s.setSlot_drainKept_idle j (x := {}) rfl).trans (State.wakeUp_drainKept _)

theorem State.queueRecord_drainKept (r : PackRecord) : s.DrainKept id (s.queueRecord r) := .of_pkb rfl rfl rfl

theorem State.modMember_drainKept (r : MemberRef) (f : Member → Member) : s.DrainKept id (s.modMember r f) :=
  s.setSlot_drainKept_same (j := r.slot) rfl

theorem State.setBuffer_drainKept (i : Fin 64) (x : Buffer) : s.DrainKept id (s.setBuffer i x) :=
  .of_pkb (by simp) (State.drainFace_congr (by simp) (by simp) (by simp) (by simp)) (by simp)

theorem State.freeBuffer_drainKept (i : Fin 64) : s.DrainKept id (s.freeBuffer i) := (s.freeBuffer_freesOnly i).drainKept

theorem State.takeBuffer_drainKept (j : SlotId) (k : Nat) : s.DrainKept id (s.takeBuffer j k) := by
  unfold State.takeBuffer
  split
  · exact s.setBuffer_drainKept _ _
  · exact .refl s

theorem State.holdThrough_drainKept (j : SlotId) (y : Nat) : s.DrainKept id (s.holdThrough j y) :=
  State.DrainKept.trans (t := s.takeBuffers j (s.slot j).taken _) (.foldl (fun s k => s.takeBuffer_drainKept j k) _ s)
    (State.setSlot_drainKept_same _ rfl)

theorem State.writeCell_drainKept (j : SlotId) (n : Nat) (bs : List Byte) : s.DrainKept id (s.writeCell j n bs) := by
  unfold State.writeCell
  split
  · exact s.withMem_drainKept _
  · exact .refl s

theorem State.triggerBeacon_drainKept (j : SlotId) (phase : PackPhase) : s.DrainKept id (s.triggerBeacon j phase) :=
  .ite (fun _ => s.withPvw_drainKept _) fun _ => .refl s

theorem State.triggerAccepting_drainKept : s.DrainKept id s.triggerAccepting := by
  unfold State.triggerAccepting
  split
  · split
    · exact s.triggerBeacon_drainKept _ _
    · exact s.triggerBeacon_drainKept _ _
    all_goals exact .refl s
  · exact .refl s

/-! ### Commits -/

/-- A commit queues a segment of its own pack (R163). -/
theorem State.commitSegment_drainKept {j : SlotId} (h : j ≠ id) (k : Nat) (b : Fin 64) : s.DrainKept id (s.commitSegment j k b) := fun hs => by
  refine ⟨?_, ?_, fun q hq e => ?_⟩
  · rw [State.slot_of_pkb (s.commitSegment_pkb j k b), State.setSlot_slot_eq, if_neg h.symm]
    exact hs
  · simp [State.drainFace, State.commitSegment_drn, State.commitSegment_count]
  · rw [State.commitSegment_drn] at hq
    simp only [queueSegment, List.mem_append, List.mem_filter, List.mem_singleton] at hq
    rcases hq with (⟨hq, -⟩ | rfl) | ⟨hq, -⟩
    · exact hq
    · exact absurd e h
    · exact hq

theorem State.commitRun_drainKept (j : SlotId) (n : Nat) : s.DrainKept id (s.commitRun j n) := by
  induction n generalizing s with
  | zero => exact .refl s
  | succ n ih =>
    unfold State.commitRun
    split
    · next k b h =>
      obtain ⟨-, hcommits, -⟩ := (s.committable_iff j k b).1 h
      exact .of_commits hcommits fun hj => (s.commitSegment_drainKept hj k b).trans (ih _)
    · exact .refl s

theorem State.testCommit_drainKept (j : SlotId) : s.DrainKept id (s.testCommit j) := s.commitRun_drainKept j 64

/-! ### Closing -/

theorem State.enterClosed_drainKept {j : SlotId} (h : j ≠ id) : s.DrainKept id (s.enterClosed j) := by
  unfold State.enterClosed
  refine .trans ?_ (State.testCommit_drainKept _ j)
  refine .trans ?_ (State.wakeUp_drainKept _)
  refine .trans ?_ (State.recomputePromised_drainKept _)
  refine .trans ?_ (State.withPvw_drainKept _ _)
  refine .trans ?_ (State.triggerBeacon_drainKept _ j _)
  exact (s.holdThrough_drainKept j _).trans (State.setSlot_drainKept_other _ h _)

theorem State.testClose_drainKept (j : SlotId) : s.DrainKept id (s.testClose j) := by
  refine .ite (fun hclosing => ?_) fun _ => .refl s
  obtain ⟨hstate, -⟩ := Bool.and_eq_true_iff.1 hclosing
  exact .of_state (of_decide_eq_true hstate) rfl s.enterClosed_drainKept

theorem State.closeFor_drainKept (j : SlotId) (cause : CloseCause) : s.DrainKept id (s.closeFor j cause) := by
  refine .ite (fun hopen => .of_state hopen rfl fun hj => ?_) fun _ => .refl s
  refine .trans ?_ (State.testClose_drainKept _ j)
  refine .trans ?_ (State.bump_drainKept _ (by cases cause <;> decide))
  exact (s.setSlot_drainKept_other hj _).trans (State.triggerBeacon_drainKept _ j _)

theorem State.closeAccepting_drainKept (cause : CloseCause) : s.DrainKept id (s.closeAccepting cause) := by
  unfold State.closeAccepting
  split
  · exact s.closeFor_drainKept _ cause
  · exact .refl s

theorem State.yieldCheck_drainKept (j : SlotId) (xs : List PeerEntry) : s.DrainKept id (s.yieldCheck j xs) := by
  unfold State.yieldCheck
  split
  · exact .ite (fun _ => (s.bump_drainKept (by decide)).trans (State.closeAccepting_drainKept _ _)) fun _ => .refl s
  · exact .refl s

theorem State.testMargin_drainKept (j : SlotId) : s.DrainKept id (s.testMargin j) :=
  .ite (fun _ => s.closeFor_drainKept j _) fun _ => .refl s

theorem State.testMemberLimit_drainKept (j : SlotId) : s.DrainKept id (s.testMemberLimit j) :=
  .ite (fun _ => s.closeFor_drainKept j _) fun _ => .refl s

theorem State.memberSettled_drainKept (j : SlotId) : s.DrainKept id (s.memberSettled j) :=
  (s.testClose_drainKept j).trans (State.testCommit_drainKept _ j)

/-! ### Fetches, forming and placement -/

theorem State.takeFetchesN_drainKept (n : Nat) : s.DrainKept id (s.takeFetchesN n) := by
  induction n generalizing s with
  | zero => exact .refl s
  | succ n ih =>
    unfold State.takeFetchesN
    split
    · dsimp only
      split
      · refine .trans ?_ (ih _)
        exact (s.withFen_drainKept _).trans ((State.modMember_drainKept _ _ _).trans (.of_pkb rfl rfl rfl))
      · exact (s.withFen_drainKept _).trans (ih _)
    · exact .refl s

theorem State.queueFetch_drainKept (r : MemberRef) : s.DrainKept id (s.queueFetch r) :=
  (s.withFen_drainKept _).trans (State.takeFetchesN_drainKept _ 4)

theorem State.abortFetches_drainKept (j : SlotId) : s.DrainKept id (s.abortFetches j) :=
  ((s.withFen_drainKept _).trans (.foldl (fun s i => .ite (fun _ => .of_pkb (t := s.dropFetch i) rfl rfl rfl) fun _ => .refl s) _ _)).trans
    (State.takeFetchesN_drainKept _ 4)

theorem State.formSlot_drainKept (j : SlotId) (key : Option Word64) : s.DrainKept id (s.formSlot j key) :=
  .ite (fun _ => s.setSlot_drainKept_idle j rfl) fun _ => .refl s

theorem State.openPack_drainKept {j : SlotId} (h : j ≠ id) (key : Word64) : s.DrainKept id (s.openPack j key) := by
  unfold State.openPack
  dsimp only
  refine .trans (t := State.bump _ .packsOpened) ?_
    (.ite (fun _ => State.closeFor_drainKept _ j _) fun _ => State.yieldCheck_drainKept _ j _)
  refine .trans ?_ (State.bump_drainKept _ (by decide))
  refine .trans ?_ (State.triggerBeacon_drainKept _ j _)
  refine (s.setSlot_drainKept_other h _).trans fun hs => ⟨?_, rfl, fun _ hq _ => hq⟩
  cases id <;> exact hs

theorem State.place_drainKept {j : SlotId} (h : j ≠ id) (file : FileInfo) (key : Word64) (carried : Bool) :
    s.DrainKept id (s.place j file key carried) := by
  unfold State.place
  dsimp only
  refine .trans ?_ (State.wakeUp_drainKept _)
  refine .trans ?_ (State.testCommit_drainKept _ j)
  refine .trans ?_ (State.testClose_drainKept _ j)
  refine .trans ?_ (State.testMemberLimit_drainKept _ j)
  refine .trans ?_ (State.testMargin_drainKept _ j)
  refine .trans ?_ (State.recomputePromised_drainKept _)
  generalize hu : State.holdThrough _ j _ = u
  have hplaced : s.DrainKept id u := hu ▸ (s.setSlot_drainKept_other h _).trans (State.holdThrough_drainKept _ j _)
  have hqueued : u.DrainKept id (if (!carried && decide (file.size ≠ 0)) = true then u.queueFetch ⟨j, (s.slot j).members.length⟩ else u) :=
    .ite (fun _ => u.queueFetch_drainKept _) fun _ => .refl u
  exact (hplaced.trans hqueued).trans (.ite (fun _ => State.openPack_drainKept _ h key) fun _ => .refl _)

/-! ### Copies -/

theorem State.endCarry_drainKept : s.DrainKept id s.endCarry := by
  cases h : s.carryingSlot with
  | none =>
    rw [State.endCarry, h]
    exact .refl s
  | some j =>
    have hheld : s.DrainKept id (s.freeHeld j) := (s.freeHeld_freesOnly j).drainKept
    unfold State.endCarry
    rw [h]
    dsimp only
    refine .trans (hheld.trans ?_) (State.clearSlot_drainKept _ j)
    split
    · exact State.queueRecord_drainKept _ _
    · exact .refl _

theorem State.stopCarry_drainKept : s.DrainKept id s.stopCarry :=
  ((s.withAru_drainKept _).trans (State.bumpBy_drainKept _ (by decide) _)).trans (State.endCarry_drainKept _)

theorem State.stopCarryInto_drainKept (j : SlotId) (copies : List Copy) : s.DrainKept id (s.stopCarryInto j copies) :=
  .ite (fun _ => s.stopCarry_drainKept) fun _ => .refl s

theorem State.moveCopy_drainKept (c : Copy) : s.DrainKept id (s.moveCopy c) := by
  unfold State.moveCopy
  dsimp only
  generalize hu : List.foldl _ s _ = u
  have hmoved : s.DrainKept id u := hu ▸ .foldl (fun s _ => s.writeCell_drainKept _ _ _) _ s
  split
  · exact hmoved.trans (State.writeCell_drainKept _ _ _ _)
  · exact hmoved

theorem State.afterCopy_drainKept : s.DrainKept id s.afterCopy := by
  have hfreed : s.DrainKept id s.freeIdleHeld := .foldl (fun s i => .ite (fun _ => s.freeBuffer_drainKept i) fun _ => .refl s) _ s
  unfold State.afterCopy
  generalize s.freeIdleHeld = u at hfreed ⊢
  exact hfreed.trans (.ite (fun _ => u.endCarry_drainKept) fun _ => .refl u)

theorem State.completeCopy_drainKept : s.DrainKept id s.completeCopy := by
  unfold State.completeCopy
  split
  · exact .refl s
  · dsimp only
    refine .trans ?_ (State.afterCopy_drainKept _)
    refine .trans ?_ (State.bump_drainKept _ (by decide))
    refine .trans ?_ (State.withAru_drainKept _ _)
    exact ((s.modMember_drainKept _ _).trans (State.moveCopy_drainKept _ _)).trans (State.memberSettled_drainKept _ _)

theorem State.startCopies_drainKept : s.DrainKept id s.startCopies := by
  unfold State.startCopies
  generalize s.aru.copies.length = n
  induction n generalizing s with
  | zero => exact .refl s
  | succ n ih =>
    unfold State.runEmptyCopies
    split
    · exact .refl s
    · exact .ite (fun _ => s.completeCopy_drainKept.trans (ih _)) fun _ => .refl s

/-! ### The later steps of an abort -/

/-- The target of a carry is another slot than its source (R181). -/
theorem State.carryMembers_drainKept {src tgt : SlotId} (h : tgt ≠ id) (ms : List Member) :
    s.DrainKept id (State.carryMembers src tgt ms s).1 := by
  induction ms generalizing s with
  | nil => exact .refl s
  | cons m rest ih =>
    unfold State.carryMembers
    dsimp only
    generalize (if (s.slot tgt).state = .free then s.emptyRoom else s.roomOf tgt) = room
    split
    · refine .trans ?_ (ih _)
      refine .trans ?_ (State.bump_drainKept _ (by decide))
      refine .trans ?_ (State.withAru_drainKept _ _)
      refine .trans ?_ (State.place_drainKept _ h _ _ _)
      exact .ite (fun _ => s.formSlot_drainKept tgt _) fun _ => .refl s
    · exact .refl s

theorem State.carryTarget_other {j tgt : SlotId} (h : s.carryTarget j = some tgt) : tgt = j.other := by
  unfold State.carryTarget at h
  split at h <;> simp_all

theorem SlotId.other_ne (j : SlotId) : j.other ≠ j := by cases j <;> decide

theorem State.holdOrFree_drainKept (j : SlotId) (ms : List Member) : s.DrainKept id (s.holdOrFree j ms) :=
  .foldl (fun s i => .ite (fun _ => .ite (fun _ => s.setBuffer_drainKept i _) fun _ => s.freeBuffer_drainKept i) fun _ => .refl s) _ s

theorem State.abortPlan_drainKept (offered : List Member) {target : Option SlotId} (h : ∀ tgt, target = some tgt → tgt ≠ id) :
    s.DrainKept id (s.abortPlan id offered target).1 := by
  have hlast (u : State) (b : Bool) : u.DrainKept id (if b then u.bump .carriesWithoutTarget else u) :=
    .ite (fun _ => u.bump_drainKept (by decide)) fun _ => .refl u
  unfold State.abortPlan
  dsimp only
  refine .trans (.trans ?_ (State.holdOrFree_drainKept _ id _)) (hlast _ _)
  have hfreed (ms : List Member) : s.DrainKept id (s.freeUntouched id ms) := (s.freeUntouched_freesOnly id ms).drainKept
  cases target <;> dsimp only
  case none => exact hfreed _
  case some tgt => exact (hfreed _).trans (State.carryMembers_drainKept _ (h tgt rfl) _)

theorem State.abortFinish_drainKept (j : SlotId) (n : Nat) (r : PackRecord) : s.DrainKept id (s.abortFinish j n r) := by
  refine .ite (fun _ => .ite (fun _ => ?_) fun _ => ?_) fun _ => .refl s
  · exact (s.queueRecord_drainKept r).trans (State.clearSlot_drainKept _ j)
  · exact (s.setSlot_drainKept_idle j rfl).trans (State.startCopies_drainKept _)

/-- Steps 6 to 8 of an abort leave the drain engine to the first five (R178). -/
theorem State.abortPack_drainKept {cause : AbortCause} (h : (s.slot id).state.abortable = true) :
    (s.abortBegin id cause).DrainKept id (s.abortPack id cause) := by
  unfold State.abortPack
  rw [if_pos h]
  dsimp only
  refine .trans ?_ (State.abortFinish_drainKept _ id _ _)
  refine .trans ?_ (State.stopCarryInto_drainKept _ id _)
  refine .trans ?_ (State.queueReleases_drainKept _ _)
  refine State.abortPlan_drainKept _ _ fun tgt htgt => ?_
  obtain ⟨-, htarget⟩ := Option.ite_none_left_eq_some.1 htgt
  exact State.carryTarget_other _ htarget ▸ SlotId.other_ne id

/-! ### The settling of a step -/

theorem State.takeFetchItem_drainKept (i : Fin 4) (rest : List (Fin 4)) : s.DrainKept id (s.takeFetchItem i rest) := by
  unfold State.takeFetchItem
  refine (s.withFen_drainKept { s.fen with items := rest }).trans ?_
  dsimp only
  split
  · exact .trans (.trans (State.withFen_drainKept _ _) (State.bump_drainKept _ (by decide))) (State.hold_drainKept _ _)
  · exact .refl _

theorem State.takeClaim_drainKept (c : Claim) : s.DrainKept id (s.takeClaim c) :=
  .trans (.trans (.trans (s.withSel_drainKept _) (State.bump_drainKept _ (by decide))) (State.hold_drainKept _ _)) (State.wakeUp_drainKept _)

theorem State.beaconTaken_drainKept (x : BeaconItem) : s.DrainKept id (s.beaconTaken x) := by
  unfold State.beaconTaken
  split
  · exact .ite (fun _ => .ite (fun _ => s.withPvw_drainKept _) fun _ => .refl s) fun _ => s.triggerAccepting_drainKept
  · exact .refl s

theorem State.takeRelease_drainKept (r : Release) (rest : List Release) : s.DrainKept id (s.takeRelease r rest) :=
  .trans (.trans (s.withAru_drainKept _) (State.bump_drainKept _ (by decide))) (State.hold_drainKept _ _)

theorem State.arbitrate_drainKept : s.DrainKept id s.arbitrate := by
  refine .ite (fun _ => .refl s) fun _ => ?_
  unfold State.arbiterChoice
  split
  · exact s.takeRelease_drainKept _ _
  · exact s.takeFetchItem_drainKept _ _
  · refine .ite (fun _ => ?_) fun _ => .refl s
    split
    · exact s.takeClaim_drainKept _
    · exact .trans (.trans (s.withPvw_drainKept _) (State.hold_drainKept _ _)) (State.beaconTaken_drainKept _ _)
    · exact .refl s

theorem State.admitCandidate_drainKept (c : Candidate) : s.DrainKept id (s.admitCandidate c) := by
  unfold State.admitCandidate State.claimAdmitted
  dsimp only
  refine .trans ?_ (State.testMargin_drainKept _ _)
  refine .trans ?_ (State.recomputePromised_drainKept _)
  refine .trans ?_ (State.withSel_drainKept _ _)
  generalize hu : (if s.accepting.isNone = true then _ else s) = u
  have hformed : s.DrainKept id u := hu ▸ .ite (fun _ => s.formSlot_drainKept _ _) fun _ => .refl s
  exact hformed.trans (.of_pkb (t := u.setCandidates _) rfl rfl rfl)

theorem State.roundIfWoken_drainKept : s.DrainKept id s.roundIfWoken := by
  refine .ite (fun _ => (s.withWake_drainKept false).trans ?_) fun _ => .refl s
  generalize s.withWake false = u
  refine .ite (fun _ => ?_) fun _ => .refl u
  split
  · exact .ite (fun _ => u.admitCandidate_drainKept _) fun _ => .refl u
  · exact .refl u

theorem State.testQuiet_drainKept : s.DrainKept id s.testQuiet :=
  .ite (fun _ => (s.withMgt_drainKept _).trans (State.withPvw_drainKept _ _)) fun _ => .refl s

theorem State.settle_drainKept : s.DrainKept id s.settle :=
  (s.arbitrate_drainKept.trans (State.roundIfWoken_drainKept _)).trans
    (((State.arbitrate_drainKept _).trans (State.roundIfWoken_drainKept _)).trans (State.testQuiet_drainKept _))

end

end Sys2Proof.Machine

/-! ## FAULT and DRAIN_TIMEOUT for the current pack (R164, R170 to R173) -/

namespace Sys2Proof.Machine

/-! ### The abort of the current pack -/

/-- What the abort of the current pack shows: its ABANDON leaves at once with the port UP, and its abandon record waits with the port DOWN
(R172, R173). -/
def DrainFace.abandoned (x : DrainFace) (c : CurrentPack) : DrainFace :=
  match x.drn.port with
  | .up => { x with
      drn := ⟨.up, [], none, [], none, none⟩
      emitted := x.emitted ++ [.message (.abandon x.station c.epoch c.seq c.stored)]
      abandonsSent := saturatingNext x.abandonsSent }
  | .down => { x with drn := ⟨.down, [], none, [], some ⟨c.epoch, c.seq, c.stored⟩, none⟩ }

theorem DrainFace.abandoned_up {x : DrainFace} (h : x.drn.port = .up) (c : CurrentPack) : x.abandoned c = { x with
    drn := ⟨.up, [], none, [], none, none⟩
    emitted := x.emitted ++ [.message (.abandon x.station c.epoch c.seq c.stored)]
    abandonsSent := saturatingNext x.abandonsSent } := by
  simp only [DrainFace.abandoned, h]

theorem DrainFace.abandoned_down {x : DrainFace} (h : x.drn.port = .down) (c : CurrentPack) : x.abandoned c =
    { x with drn := ⟨.down, [], none, [], some ⟨c.epoch, c.seq, c.stored⟩, none⟩ } := by
  simp only [DrainFace.abandoned, h]

section
variable {s : State} {c : CurrentPack}

theorem State.abortDrain_drainFace (hc : s.drn.current = some c) : (s.abortDrain c.slot).drainFace = s.drainFace.abandoned c := by
  have hcount (t : State) (d : Drn) (k : Ctr) : (t.withDrn d).count k = t.count k := rfl
  have hemit (t : State) (x : Emission) (k : Ctr) : (t.emit x).count k = t.count k := rfl
  have hmedia (t : State) : (t.bump .abandonsSent).count .mediaFaults = t.count .mediaFaults := t.count_bump_other (by decide)
  cases hport : s.drn.port with
  | up =>
    rw [DrainFace.abandoned_up (x := s.drainFace) hport]
    simp [State.abortDrain, hc, hport, State.issueAbandon, State.drainFace, hcount, hemit, hmedia]
  | down =>
    rw [DrainFace.abandoned_down (x := s.drainFace) hport]
    simp [State.abortDrain, hc, hport, State.drainFace, hcount]

/-- None of the pack's segments stays in the drain queue, and the slots are left alone (R172). -/
theorem State.abortDrain_frame (s : State) (id : SlotId) :
    (s.abortDrain id).pkb = s.pkb ∧ ∀ q ∈ (s.abortDrain id).drn.queue, q.slot ≠ id := by
  obtain ⟨counters, heq⟩ := s.abortDrain_eq id
  rw [heq]
  refine ⟨rfl, fun q hq => ?_⟩
  simpa using (List.mem_filter.1 hq).2

/-- An abort reaches the drain engine with its slot ABORTED and the drain engine as it was (R178, steps 1 to 4). -/
theorem State.abortBegin_drain (s : State) (id : SlotId) (cause : AbortCause) : ∃ u : State,
    s.abortBegin id cause = u.abortDrain id ∧ (u.slot id).state.commits = false ∧ u.drainFace = s.drainFace := by
  obtain ⟨p, hp⟩ := (s.bump cause.counter).triggerBeacon_eq id .aborted
  unfold State.abortBegin
  dsimp only
  rw [hp]
  generalize hv : (if (s.slot id).state.accepting = true then _ else _) = v
  have hface : v.drainFace = s.drainFace := by
    rw [← s.bump_drainFace (c := cause.counter) (by cases cause <;> decide), ← hv]
    split <;> rfl
  let w := v.setSlot id { v.slot id with state := .aborted, ageDeadline := none, commitPoint := none }
  have hidle : (w.slot id).state.commits = false := by simp [w, SlotState.commits]
  obtain ⟨hu, huface, -⟩ :=
    ((w.recomputePromised_drainKept (id := id)).trans ((State.withSel_drainKept _ _).trans (State.abortFetches_drainKept _ id))) hidle
  exact ⟨_, rfl, hu, huface.trans ((v.setSlot_drainFace id _).trans hface)⟩

/-- The abort of the current pack and what follows it in its step: none of its segments is left, and the drain engine has abandoned it. -/
theorem State.abortPack_current (hc : s.drn.current = some c) (ha : (s.slot c.slot).state.abortable = true) (cause : AbortCause) :
    (s.abortPack c.slot cause).settle.drainFace = s.drainFace.abandoned c ∧
      ∀ q ∈ (s.abortPack c.slot cause).settle.drn.queue, q.slot ≠ c.slot := by
  obtain ⟨u, hbegin, hidle, hface⟩ := s.abortBegin_drain c.slot cause
  obtain ⟨hpkb, hgone⟩ := u.abortDrain_frame c.slot
  have hcu : u.drn.current = some c := (congrArg (fun x : DrainFace => x.drn.current) hface).trans hc
  have hkept := (State.abortPack_drainKept (cause := cause) s ha).trans (State.settle_drainKept _)
  rw [hbegin] at hkept
  obtain ⟨-, hlast, hqueue⟩ := hkept (by rw [State.slot_of_pkb hpkb, hidle])
  exact ⟨by rw [hlast, State.abortDrain_drainFace hcu, hface], fun q hq e => hgone q (hqueue q hq e) e⟩

/-- A drain engine is its queue and what is seen of it. -/
theorem State.drn_of_drainFace {t : State} {d : Drn} (h : t.drainFace.drn = d) : t.drn = { d with queue := t.drn.queue } := by
  rw [← h]
  rfl

/-! ### The commands -/

theorem exec_fault (hc : s.drn.current = some c) (reason : FaultReason) :
    exec (.fault (le 4 c.epoch.toNat ++ le 4 c.seq.toNat ++ le 1 reason.code)) s = .next (s.begin.acceptFault c reason).settle := by
  have hmatch : s.begin.faultMatch ⟨c.epoch, c.seq, reason⟩ = some c := by simp [State.faultMatch, hc]
  refine congrArg Host.Outcome.next ?_
  simp only [State.receiveFault, readFault_le, hmatch]

theorem State.drainTimer_due {now e : Nat} (hclock : s.mgt.clock = some now) (hdue : s.drn.deadline = some e) (he : e ≤ now)
    (hc : s.drn.current = some c) : s.drainTimer =
      ((((s.bump .drainTimeouts).portDown).withDrn { s.drn with port := .down, deadline := none }).abortPack c.slot .timeout).settle := by
  rw [State.drainTimer, if_pos (by rw [hdue, State.due_reached hclock he])]
  simp only [State.drainTimesOut, State.portDown, State.withDrn_drn, State.bump_drn, hc]

/-- Taken DOWN, the port keeps the record of the current pack's abort, and nothing else of it (R164, R171, R173). -/
theorem State.abortPack_down (hport : s.drn.port = .down) (hc : s.drn.current = some c) (ha : (s.slot c.slot).state.abortable = true)
    (cause : AbortCause) : ∃ queue, (s.abortPack c.slot cause).settle.drn =
      ⟨.down, queue, none, [], some ⟨c.epoch, c.seq, c.stored⟩, none⟩ ∧ ∀ q ∈ queue, q.slot ≠ c.slot := by
  obtain ⟨hface, hqueue⟩ := State.abortPack_current hc ha cause
  rw [DrainFace.abandoned_down (x := s.drainFace) hport] at hface
  exact ⟨_, State.drn_of_drainFace (congrArg DrainFace.drn hface), hqueue⟩

end

/-- Settles O41: each of the three is an abort of the current pack, behind which nothing reaches the drain engine but other packs' segments. -/
theorem drainGoesDown : Obligations.DrainGoesDown := by
  intro c now e s hc ha hclock hdeadline
  refine ⟨?_, fun he => ?_, fun he => ?_, fun hup => ?_⟩
  · obtain ⟨queue, hdrn, hqueue⟩ := State.abortPack_down (s := (s.begin.bump .offlineFaults).portDown) rfl hc ha .offline
    exact ⟨_, queue, exec_fault hc .offline, hdrn, hqueue⟩
  · obtain ⟨queue, hdrn, hqueue⟩ := State.abortPack_down
      (s := ((s.begin.bump .drainTimeouts).portDown).withDrn { s.drn with port := .down, deadline := none }) rfl hc ha .timeout
    exact ⟨_, queue, congrArg Host.Outcome.next (State.drainTimer_due (s := s.begin) hclock hdeadline he hc), hdrn, hqueue⟩
  · refine congrArg Host.Outcome.next (if_neg ?_)
    rw [State.begin_drn, hdeadline, State.due_early (s := s.begin) hclock he]
    decide
  · obtain ⟨hface, hqueue⟩ := State.abortPack_current (s := s.begin.bump .mediaFaults) hc ha .media
    rw [DrainFace.abandoned_up (x := (s.begin.bump .mediaFaults).drainFace) hup] at hface
    refine ⟨_, _, exec_fault hc .media, State.drn_of_drainFace (congrArg DrainFace.drn hface), hqueue, congrArg DrainFace.emitted hface,
      (congrArg DrainFace.mediaFaults hface).trans (State.count_bump _ _), (congrArg DrainFace.abandonsSent hface).trans ?_⟩
    exact congrArg saturatingNext (State.count_bump_other s.begin (by decide))

end Sys2Proof.Machine

/-! ## Passes over the buffers of an aborted pack (R152, R180, R182, R183, R186) -/

namespace Sys2Proof.Machine

/-- From one state to a later one nothing has changed but buffers and the wake mark. -/
def State.OnlyBuffers (s t : State) : Prop :=
  ∃ (bufs : Vector Buffer 64) (w : Bool), t = (s.withSpl { s.spl with buffers := bufs }).withWake w

section
variable {s t u : State} {id : SlotId}

theorem State.OnlyBuffers.refl (s : State) : s.OnlyBuffers s := ⟨s.spl.buffers, s.wake, rfl⟩

theorem State.OnlyBuffers.trans (h : s.OnlyBuffers t) (k : t.OnlyBuffers u) : s.OnlyBuffers u := by
  obtain ⟨bufs, w, rfl⟩ := h
  obtain ⟨bufs', w', rfl⟩ := k
  exact ⟨bufs', w', rfl⟩

theorem State.OnlyBuffers.ite {p : Prop} [Decidable p] (ht : p → s.OnlyBuffers t) (hu : ¬ p → s.OnlyBuffers u) :
    s.OnlyBuffers (if p then t else u) := by
  split
  · exact ht ‹_›
  · exact hu ‹_›

theorem State.setBuffer_onlyBuffers (s : State) (i : Fin 64) (x : Buffer) : s.OnlyBuffers (s.setBuffer i x) := by
  unfold State.setBuffer
  exact .ite (fun _ => .refl s) fun _ => ⟨s.spl.buffers.set i.val x i.isLt, s.wake, rfl⟩

theorem State.freeBuffer_onlyBuffers (s : State) (i : Fin 64) : s.OnlyBuffers (s.freeBuffer i) := (s.freeBuffer_freesOnly i).1

/-- A pass whose steps each rewrite their own buffer, from that buffer's contents alone, rewrites every buffer from the state before it. -/
theorem State.buffers_foldl {step : State → Fin 64 → State} {left : State → Fin 64 → Buffer}
    (honly : ∀ (s : State) i, s.OnlyBuffers (step s i))
    (hstep : ∀ (s : State) i j, (step s i).buffer j = if j = i then left s i else s.buffer j)
    (hleft : ∀ (s t : State) i, t.buffer i = s.buffer i → left t i = left s i) {l : List (Fin 64)} (hl : l.Nodup) (s : State) :
    s.OnlyBuffers (l.foldl step s) ∧ ∀ j, (l.foldl step s).buffer j = if j ∈ l then left s j else s.buffer j := by
  induction l generalizing s with
  | nil => exact ⟨.refl s, fun j => (if_neg List.not_mem_nil).symm⟩
  | cons i l ih =>
    obtain ⟨hi, hl⟩ := List.nodup_cons.1 hl
    obtain ⟨hrest, hbuffer⟩ := ih hl (step s i)
    refine ⟨(honly s i).trans hrest, fun j => (hbuffer j).trans ?_⟩
    by_cases e : j = i
    · subst e
      rw [if_neg hi, if_pos List.mem_cons_self, hstep, if_pos rfl]
    · have hkept : (step s i).buffer j = s.buffer j := (hstep s i j).trans (if_neg e)
      rw [hleft _ _ _ hkept, hkept]
      simp [e]

/-- Whether members touch a buffer's segment is read from the buffer. -/
theorem State.bufferTouched_congr {i : Fin 64} (h : t.buffer i = s.buffer i) (ms : List Member) :
    t.bufferTouched i ms = s.bufferTouched i ms := by
  unfold State.bufferTouched
  rw [h]

theorem State.freeBuffer_step {p : Bool} {i : Fin 64} (h : p = true → (s.buffer i).state ≠ .retired) (j : Fin 64) :
    (if p = true then s.freeBuffer i else s).buffer j = if j = i then (if p = true then ⟨.free, none⟩ else s.buffer i) else s.buffer j := by
  by_cases hp : p = true
  · rw [if_pos hp, if_pos hp, State.freeBuffer_buffer (h hp)]
  · rw [if_neg hp, if_neg hp]
    split
    · next e => rw [e]
    · rfl

/-- The first pass of an abort frees the pack's buffers that none of these members touches (R182). -/
theorem State.freeUntouched_buffer (s : State) (id : SlotId) (ms : List Member) (i : Fin 64) : (s.freeUntouched id ms).buffer i =
    if (s.heldByPack id i && !s.bufferTouched i ms) = true then ⟨.free, none⟩ else s.buffer i := by
  refine ((State.buffers_foldl (left := fun s i => if (s.heldByPack id i && !s.bufferTouched i ms) = true then ⟨.free, none⟩ else s.buffer i)
    (fun s i => .ite (fun _ => s.freeBuffer_onlyBuffers i) fun _ => .refl s) (fun s i j => ?_) (fun s t i h => ?_)
    (List.nodup_finRange 64) s).2 i).trans (if_pos (List.mem_finRange i))
  · exact State.freeBuffer_step (fun hp => State.heldByPack_inService (Bool.and_eq_true_iff.1 hp).1) j
  · rw [State.heldByPack_congr h, State.bufferTouched_congr h, h]

/-- What the last pass of an abort leaves in a buffer of the pack (R183). -/
def State.heldOrFree (s : State) (id : SlotId) (ms : List Member) (i : Fin 64) : Buffer :=
  if s.heldByPack id i = true then
    if s.bufferTouched i ms = true then ⟨.held, (s.buffer i).bound⟩ else ⟨.free, none⟩
  else s.buffer i

theorem State.heldOrFree_congr {i : Fin 64} {ms : List Member} (h : t.buffer i = s.buffer i) : t.heldOrFree id ms i = s.heldOrFree id ms i := by
  unfold State.heldOrFree
  rw [State.heldByPack_congr h, State.bufferTouched_congr h, h]

/-- The last pass of an abort holds the pack's buffers that a member carried touches, and frees the others (R152, R183). -/
theorem State.holdOrFree_pass (s : State) (id : SlotId) (ms : List Member) : s.OnlyBuffers (s.holdOrFree id ms) ∧
    ∀ i, (s.holdOrFree id ms).buffer i = s.heldOrFree id ms i := by
  have hstep (s : State) (i j : Fin 64) : (if s.heldByPack id i then
      if s.bufferTouched i ms then s.setBuffer i ⟨.held, (s.buffer i).bound⟩ else s.freeBuffer i else s).buffer j =
      if j = i then s.heldOrFree id ms i else s.buffer j := by
    unfold State.heldOrFree
    by_cases hp : s.heldByPack id i = true
    · have hkept := State.heldByPack_inService hp
      by_cases ht : s.bufferTouched i ms = true
      · rw [if_pos hp, if_pos ht, if_pos hp, if_pos ht, s.setBuffer_buffer i j _ hkept]
      · rw [if_pos hp, if_neg ht, if_pos hp, if_neg ht, State.freeBuffer_buffer hkept]
    · rw [if_neg hp, if_neg hp]
      split
      · next e => rw [e]
      · rfl
  obtain ⟨honly, hbuffer⟩ := State.buffers_foldl
    (fun s i => .ite (fun _ => .ite (fun _ => s.setBuffer_onlyBuffers i _) fun _ => s.freeBuffer_onlyBuffers i) fun _ => .refl s)
    hstep (fun s t i h => State.heldOrFree_congr h) (List.nodup_finRange 64) s
  exact ⟨honly, fun i => (hbuffer i).trans (if_pos (List.mem_finRange i))⟩

/-- Whether a buffer is HELD for a carry from this slot (R183). -/
def State.heldFor (s : State) (id : SlotId) (i : Fin 64) : Bool :=
  (s.buffer i).state = .held && (s.buffer i).bound.map Prod.fst = some id

theorem State.heldFor_iff (s : State) (id : SlotId) (i : Fin 64) :
    s.heldFor id i = true ↔ (s.buffer i).state = .held ∧ (s.buffer i).bound.map Prod.fst = some id := by
  rw [State.heldFor, Bool.and_eq_true, decide_eq_true_eq, decide_eq_true_eq]

/-- The end of a carry frees the buffers HELD for it (R186). -/
theorem State.freeHeld_buffer (s : State) (id : SlotId) (i : Fin 64) : (s.freeHeld id).buffer i =
    if s.heldFor id i = true then ⟨.free, none⟩ else s.buffer i := by
  have hstep (s : State) (i : Fin 64) : (match s.buffer i with
      | ⟨.held, some (x, _)⟩ => if x = id then s.freeBuffer i else s
      | _ => s) = if s.heldFor id i = true then s.freeBuffer i else s := by
    unfold State.heldFor
    rcases s.buffer i with ⟨st, bound⟩
    cases st <;> rcases bound with _ | ⟨x, k⟩ <;> simp
  have hfold : s.freeHeld id = (List.finRange 64).foldl (fun s i => if s.heldFor id i = true then s.freeBuffer i else s) s :=
    congrArg (fun step => (List.finRange 64).foldl step s) (funext₂ hstep)
  rw [hfold]
  refine ((State.buffers_foldl (left := fun s i => if s.heldFor id i = true then ⟨.free, none⟩ else s.buffer i)
    (fun s i => .ite (fun _ => s.freeBuffer_onlyBuffers i) fun _ => .refl s) (fun s i j => ?_) (fun s t i h => ?_)
    (List.nodup_finRange 64) s).2 i).trans (if_pos (List.mem_finRange i))
  · refine State.freeBuffer_step (fun hp => ?_) j
    rw [((s.heldFor_iff id i).1 hp).1]
    decide
  · unfold State.heldFor
    rw [h]

/-! ### Counting them (R143, R182) -/

theorem State.bufferCount_eq (s : State) (st : BufferState) :
    s.bufferCount st = (List.finRange 64).countP fun i => (s.buffer i).state = st := by
  have hlist : s.spl.buffers.toList = (List.finRange 64).map s.buffer := by
    refine List.ext_getElem (by simp) fun i hi _ => ?_
    simp [State.buffer]
  rw [State.bufferCount, hlist, List.countP_map]
  rfl

/-- The buffers that are FREE once those of an aborted pack are freed that none of these members touches (R182). -/
def State.freeBeside (s : State) (id : SlotId) (ms : List Member) : Nat :=
  (List.finRange 64).countP fun i => (s.buffer i).state = .free || (s.heldByPack id i && !s.bufferTouched i ms)

theorem State.freeUntouched_count (s : State) (id : SlotId) (ms : List Member) :
    (s.freeUntouched id ms).bufferCount .free = s.freeBeside id ms := by
  rw [State.bufferCount_eq]
  refine List.countP_congr fun i _ => ?_
  rw [State.freeUntouched_buffer]
  cases s.heldByPack id i && !s.bufferTouched i ms <;> simp

theorem State.bufferCount_le_freeBeside (s : State) (id : SlotId) (ms : List Member) : s.bufferCount .free ≤ s.freeBeside id ms := by
  rw [State.bufferCount_eq]
  exact List.countP_mono_left fun i _ hi => Bool.or_eq_true_iff.2 (.inl hi)

theorem State.freeBeside_congr (h : ∀ i, t.buffer i = s.buffer i) (id : SlotId) (ms : List Member) :
    t.freeBeside id ms = s.freeBeside id ms := by
  refine List.countP_congr fun i _ => ?_
  rw [h i, State.heldByPack_congr (h i), State.bufferTouched_congr (h i)]

end

end Sys2Proof.Machine

/-! ## The end of a carry (R184 to R186) -/

namespace Sys2Proof.Machine

section
variable {s t v : State} {src : SlotId} {r : PackRecord}

/-- Only one slot is CARRYING (R181). -/
theorem State.carryingSlot_eq (hsrc : (s.slot src).state = .carrying) (hother : (s.slot src.other).state ≠ .carrying) :
    s.carryingSlot = some src := by
  cases src with
  | a => exact if_pos hsrc
  | b => exact (if_neg hother).trans (if_pos hsrc)

/-- The pool with every HELD buffer FREE (R186). -/
def State.heldFreed (s : State) : Spl :=
  { s.spl with buffers := Vector.ofFn fun i => if (s.buffer i).state = .held then ⟨.free, none⟩ else s.buffer i }

theorem State.withSpl_ofFn_buffer (s : State) (x : Spl) (f : Fin 64 → Buffer) (i : Fin 64) :
    (s.withSpl { x with buffers := Vector.ofFn f }).buffer i = f i := by
  simp [State.buffer]

theorem State.heldFreed_buffer (s : State) (i : Fin 64) :
    (s.withSpl s.heldFreed).buffer i = if (s.buffer i).state = .held then ⟨.free, none⟩ else s.buffer i :=
  s.withSpl_ofFn_buffer s.spl _ i

/-- With the copy queue empty no HELD buffer is needed (R184). -/
theorem State.freeIdleHeld_all (hc : s.aru.copies = []) : ∃ w : Bool, s.freeIdleHeld = (s.withSpl s.heldFreed).withWake w := by
  obtain ⟨w, hidle⟩ := s.freeIdleHeld_eq
  have hcount (i : Fin 64) : s.idleHeld i = true ↔ (s.buffer i).state = .held := by
    have hzero : s.copyCount i = 0 := by
      unfold State.copyCount
      rw [hc]
      split <;> rfl
    simp [State.idleHeld, hzero]
  simp only [hcount] at hidle
  exact ⟨w, hidle⟩

/-- The pass over the buffers HELD for a slot finds none. -/
theorem State.freeHeld_none (h : ∀ i, (s.buffer i).state ≠ .held) (id : SlotId) : ∃ w : Bool, s.freeHeld id = s.withWake w := by
  obtain ⟨⟨bufs, w, heq⟩, -⟩ := s.freeHeld_freesOnly id
  have hbufs : bufs = s.spl.buffers := by
    ext1 i hi
    have hbuffer : (s.freeHeld id).buffer ⟨i, hi⟩ = s.buffer ⟨i, hi⟩ := by
      rw [State.freeHeld_buffer, State.heldFor, decide_eq_false (h ⟨i, hi⟩)]
      rfl
    rw [heq] at hbuffer
    exact hbuffer
  rw [hbufs] at heq
  exact ⟨w, heq⟩

/-- A carry ends whose buffers are FREE already: its record is queued, and its slot is FREE (R186). -/
theorem State.endCarry_unheld (h : ∀ i, (s.buffer i).state ≠ .held) (hsrc : (s.slot src).state = .carrying)
    (hother : (s.slot src.other).state ≠ .carrying) (hr : (s.slot src).record = some r) :
    s.endCarry = (s.queueRecord r).clearSlot src := by
  obtain ⟨w, heq⟩ := State.freeHeld_none h src
  rw [State.endCarry_eq (State.carryingSlot_eq hsrc hother), heq, hr]
  cases src <;> rfl

/-- With the last copy gone every HELD buffer is FREE, and the carry ends (R184, R185). -/
theorem State.afterCopy_ends (hc : s.aru.copies = []) (hsrc : (s.slot src).state = .carrying)
    (hother : (s.slot src.other).state ≠ .carrying) (hr : (s.slot src).record = some r) :
    s.afterCopy = ((s.withSpl s.heldFreed).queueRecord r).clearSlot src := by
  obtain ⟨w, hidle⟩ := State.freeIdleHeld_all hc
  have hfreed := s.heldFreed_buffer
  generalize s.heldFreed = spl at hidle hfreed ⊢
  have hunheld (i : Fin 64) : (((s.withSpl spl).withWake w).buffer i).state ≠ .held := by
    have hbuffer : ((s.withSpl spl).withWake w).buffer i = _ := hfreed i
    rw [hbuffer]
    split
    · decide
    · next h => exact h
  have hend := State.endCarry_unheld (s := (s.withSpl spl).withWake w) hunheld hsrc hother hr
  unfold State.afterCopy
  rw [hidle]
  refine (if_pos ?_).trans (hend.trans ?_)
  · rw [State.withWake_aru, State.withSpl_aru, hc]
    rfl
  · cases src <;> rfl

/-- The step that ends a carry into an OPEN pack (R75, R186). -/
theorem State.settle_carryEnds (hc : s.aru.copies = []) (hsrc : (s.slot src).state = .carrying)
    (ho : (s.slot src.other).state = .opened) (hr : (s.slot src).record = some r) (hl : s.holderFull) (hn : s.noneToAdmit)
    (hw : s.wake = false) :
    s.afterCopy.startCopies.settle = ((s.withSpl s.heldFreed).queueRecord r).setSlot src {} := by
  rw [State.afterCopy_ends hc hsrc (by rw [ho]; decide) hr]
  generalize s.heldFreed = spl
  have hstart : ((((s.withSpl spl).queueRecord r).clearSlot src).startCopies) = ((s.withSpl spl).queueRecord r).clearSlot src := by
    have hcopies : (((s.withSpl spl).queueRecord r).clearSlot src).aru.copies = [] := by simpa [State.clearSlot] using hc
    rw [State.startCopies, hcopies]
    rfl
  have hslot : ((((s.withSpl spl).queueRecord r).setSlot src {}).slot src.other).state ≠ .free := by
    rw [State.setSlot_slot_other]
    exact fun h => nomatch ho.symm.trans h
  rw [hstart]
  refine State.settle_wakeUp (u := ((s.withSpl spl).queueRecord r).setSlot src {}) (State.holderFull_congr hl (State.setSlot_lif ..)) ?_
    hslot ((State.setSlot_wake ..).trans hw)
  refine hn.imp (fun h => ?_) fun h => ?_
  · rw [State.setSlot_mgt]
    exact h
  · rw [State.setSlot_oft]
    exact h

end

end Sys2Proof.Machine

namespace Sys2Proof.Machine

/-! ### The state a carry leaves (R186) -/

/-- The state a carry leaves at its end, ahead of its wake-up (R186). -/
def State.carryEnded (s : State) (src : SlotId) (r : PackRecord) : State :=
  ((s.withSpl s.heldFreed).queueRecord r).setSlot src {}

section
variable (s : State) (src : SlotId) (r : PackRecord)

theorem State.carryEnded_slot : (s.carryEnded src r).slot src = {} := State.setSlot_slot ..

theorem State.carryEnded_frame : (s.carryEnded src r).slot src.other = s.slot src.other ∧ (s.carryEnded src r).aru = s.aru ∧
    (s.carryEnded src r).mgt = { s.mgt with records := s.mgt.records ++ [r] } ∧ (s.carryEnded src r).spl = s.heldFreed ∧
    (s.carryEnded src r).mem = s.mem ∧ (s.carryEnded src r).counters = s.counters := by
  unfold State.carryEnded
  generalize s.heldFreed = spl
  cases src <;> exact ⟨rfl, rfl, rfl, rfl, rfl, rfl⟩

end

/-- Whether one of these copies needs a buffer: its source extent touches the segment the buffer is bound to (R183). -/
def State.neededBy (s : State) (copies : List Copy) (i : Fin 64) : Bool :=
  match (s.buffer i).bound with
  | some (id, k) => copies.any fun y => y.source = id && touches y.sourceHead y.footprint k
  | none => false

theorem State.idleHeld_eq {s t : State} (h : t.spl = s.spl) (i : Fin 64) :
    t.idleHeld i = ((s.buffer i).state = .held && !s.neededBy t.aru.copies i) := by
  have hbuffer := State.buffer_congr h i
  unfold State.idleHeld State.neededBy
  rw [hbuffer]
  cases hbound : (s.buffer i).bound with
  | none => rw [State.copyCount_unbound (hbuffer ▸ hbound)]; rfl
  | some x => rw [State.copyCount_eq_zero (id := x.1) (k := x.2) (hbuffer ▸ hbound)]

theorem State.heldFreed_congr {s t : State} (h : t.spl = s.spl) : t.heldFreed = s.heldFreed := by
  simp only [State.heldFreed, h, State.buffer_congr h]

/-! ### A copy gone from the queue (R184, R185) -/

/-- A copy has left the queue and its member's record has changed, ahead of what follows for buffers and the carry (R184, R185). -/
def State.copyGone (s : State) (r : MemberRef) (f : Member → Member) (mem : Memory) (rest : List Copy) (k : Ctr) : State :=
  (((s.modMember r f).withMem mem).withAru { s.aru with copies := rest }).bump k

section
variable (s : State) (r : MemberRef) (f : Member → Member) (mem : Memory) (rest : List Copy) (k : Ctr)

theorem State.copyGone_slot : (s.copyGone r f mem rest k).slot r.slot =
    { s.slot r.slot with members := (s.slot r.slot).members.modify r.index f } := s.modMember_slot r f

theorem State.copyGone_slot_other {id : SlotId} (h : id ≠ r.slot) : (s.copyGone r f mem rest k).slot id = s.slot id :=
  (s.setSlot_slot_eq r.slot id _).trans (if_neg h)

theorem State.copyGone_member {m : Member} (h : s.member? r = some m) : (s.copyGone r f mem rest k).member? r = some (f m) := by
  have h' : (s.slot r.slot).members[r.index]? = some m := h
  rw [State.member?, State.copyGone_slot]
  simp [h']

theorem State.copyGone_frame : (s.copyGone r f mem rest k).lif = s.lif ∧ (s.copyGone r f mem rest k).oft = s.oft ∧
    (s.copyGone r f mem rest k).mgt = s.mgt ∧ (s.copyGone r f mem rest k).spl = s.spl ∧
    (s.copyGone r f mem rest k).wake = s.wake ∧ (s.copyGone r f mem rest k).counters = (s.bump k).counters := by
  refine ⟨State.setSlot_lif .., State.setSlot_oft .., State.setSlot_mgt .., State.setSlot_spl .., State.setSlot_wake .., ?_⟩
  exact State.bump_counters_congr (State.setSlot_counters ..) k

end

section
variable {s : State} {c : Copy} {rest : List Copy} {r : MemberRef}

/-- What a completion does to its member's record (R184). -/
def Member.copied (m : Member) : Member := if m.state = .copying then { m with state := .done } else m

/-- What a WITHDRAW does to its member's record (R114, R185). -/
def Member.withdrawn (m : Member) : Member := { m with state := .void .withdrawn }

/-- The completion of the front copy, in an OPEN target that neither closes nor commits (R184). -/
theorem State.completeCopy_open (hc : s.aru.copies = c :: rest) (ho : (s.slot c.target.slot).state = .opened)
    (hs : (s.slot c.target.slot).segmentOpen) :
    ∃ mem, s.completeCopy = (s.copyGone c.target Member.copied mem rest .copiesCompleted).afterCopy := by
  obtain ⟨mem, hmem⟩ := (s.modMember c.target Member.copied).moveCopy_mem_only c
  have hslot : ((s.modMember c.target Member.copied).withMem mem).slot c.target.slot = _ := s.modMember_slot c.target Member.copied
  have hsettled : ((s.modMember c.target Member.copied).withMem mem).memberSettled c.target.slot = _ :=
    State.memberSettled_of_open (by rw [hslot]; exact ho) (by rw [hslot]; exact hs)
  have hmod : (s.modMember c.target fun m => if m.state = .copying then { m with state := .done } else m) =
      s.modMember c.target Member.copied := rfl
  refine ⟨mem, ?_⟩
  simp only [State.completeCopy, hc, hmod, hmem, hsettled]
  refine congrArg (fun x => State.afterCopy (State.bump (State.withAru _ x) .copiesCompleted)) ?_
  rw [State.withMem_aru, State.modMember, State.setSlot_aru]

/-- A WITHDRAW of a COPYING member in an OPEN pack that neither closes nor commits (R185). -/
theorem State.withdrawCopying_open (ho : (s.slot r.slot).state = .opened) (hs : (s.slot r.slot).segmentOpen) :
    s.withdrawCopying r = (s.copyGone r Member.withdrawn s.mem
      (s.aru.copies.filter fun c => c.target ≠ r) .copiesStopped).afterCopy.startCopies := by
  have hgone : (((s.modMember r fun m => { m with state := .void .withdrawn }).withAru { s.aru with
      copies := s.aru.copies.filter fun c => c.target ≠ r }).bump .copiesStopped) =
      s.copyGone r Member.withdrawn s.mem (s.aru.copies.filter fun c => c.target ≠ r) .copiesStopped := by
    obtain ⟨id, index⟩ := r
    cases id <;> rfl
  have hslot := s.copyGone_slot r Member.withdrawn s.mem (s.aru.copies.filter fun c => c.target ≠ r)
    .copiesStopped
  have haru : (s.modMember r fun m => { m with state := .void .withdrawn }).aru = s.aru := State.setSlot_aru ..
  simp only [State.withdrawCopying, haru, hgone]
  rw [State.memberSettled_of_open (by rw [hslot]; exact ho) (by rw [hslot]; exact hs)]

theorem State.withdrawnMember_copying {p : FilePair} {m : Member} (hr : s.liveMember p = some r) (hm : s.member? r = some m)
    (ho : (s.slot r.slot).state = .opened) (hst : m.state = .copying) : s.withdrawnMember p = s.withdrawCopying r := by
  simp only [State.withdrawnMember, hr, ho, hm, hst, Option.map_some]

end

section
variable {s : State} {src : SlotId} {record : PackRecord} {r : MemberRef} {f : Member → Member} {mem : Memory} {rest : List Copy}
  {k : Ctr}
  (ho : (s.slot r.slot).state = .opened) (hl : s.holderFull) (hn : s.noneToAdmit) (hw : s.wake = false)
include ho hl hn hw

/-- With the last copy gone from the queue the step ends the carry (R184 to R186). -/
theorem State.settle_copyGone_last (hrest : rest = []) (hid : r.slot = src.other) (hsrc : (s.slot src).state = .carrying)
    (hr : (s.slot src).record = some record) : (s.copyGone r f mem rest k).afterCopy.startCopies.settle =
      (s.copyGone r f mem rest k).carryEnded src record := by
  have hother : src ≠ r.slot := fun e => SlotId.other_ne src (hid.symm.trans e.symm)
  have hsame := s.copyGone_slot_other r f mem rest k hother
  have hslot := s.copyGone_slot r f mem rest k
  obtain ⟨hlif, hoft, hmgt, -, hwake, -⟩ := s.copyGone_frame r f mem rest k
  refine State.settle_carryEnds hrest (by rw [hsame]; exact hsrc) ?_ (by rw [hsame]; exact hr) (State.holderFull_congr hl hlif)
    (State.noneToAdmit_congr hn hmgt hoft) (hwake.trans hw)
  rw [← hid, hslot]
  exact ho

/-- With copies left that have data, the step only frees the HELD buffers that none of them needs (R184, R185). -/
theorem State.settle_copyGone_more (hne : rest ≠ []) (hdata : ∀ d ∈ rest, d.footprint ≠ 1) :
    ∃ bufs : Vector Buffer 64, (s.copyGone r f mem rest k).afterCopy.startCopies.settle =
        (s.copyGone r f mem rest k).withSpl { s.spl with buffers := bufs } ∧
      ∀ i : Fin 64, bufs[i] = if ((s.buffer i).state = .held && !s.neededBy rest i) = true then ⟨.free, none⟩ else s.buffer i := by
  have hslot := s.copyGone_slot r f mem rest k
  obtain ⟨hlif, hoft, hmgt, hspl, hwake, -⟩ := s.copyGone_frame r f mem rest k
  have hcopies : (s.copyGone r f mem rest k).aru.copies = rest := rfl
  obtain ⟨d, tail, hrest⟩ := List.exists_cons_of_ne_nil hne
  rw [State.afterCopy_of_copies hne,
    State.settle_freeIdleHeld (hcopies.trans hrest) (hdata d (hrest ▸ List.mem_cons_self)) (State.holderFull_congr hl hlif)
      (State.noneToAdmit_congr hn hmgt hoft)
      (id := r.slot) (by rw [hslot]; exact fun h => nomatch ho.symm.trans h) (hwake.trans hw)]
  simp only [State.idleHeld_eq hspl, State.buffer_congr hspl, hspl, hcopies]
  exact ⟨_, rfl, fun i => Vector.getElem_ofFn i.isLt⟩

end

end Sys2Proof.Machine

/-! ## The abort of a pack, its members offered for carry (R178 to R183, R189, R190) -/

namespace Sys2Proof.Machine

/-! ### What the plan reads (R180 to R182) -/

section
variable {s t : State} {id : SlotId}

/-- Whether a member qualifies for carry is read from the buffers. -/
theorem State.qualifies_congr (h : ∀ i, t.buffer i = s.buffer i) (id : SlotId) (m : Member) : t.qualifies id m = s.qualifies id m := by
  unfold State.qualifies
  simp only [h, fun i => State.heldByPack_congr (id := id) (h i)]

/-- A member qualifies whose every segment has a buffer the pack holds (R180). -/
theorem State.qualifies_of_held {m : Member} (h : ∀ k, seg m.headN ≤ k → k ≤ seg (m.headN + m.footprint - 1) →
    ∃ i, (s.buffer i).bound = some (id, k) ∧ s.heldByPack id i = true) : s.qualifies id m = true := by
  refine List.all_eq_true.2 fun k hk => ?_
  obtain ⟨hlo, hhi⟩ := List.mem_range'_1.1 hk
  obtain ⟨i, hbound, hheld⟩ := h k hlo (by omega)
  exact List.any_eq_true.2 ⟨i, List.mem_finRange i, by simp [hbound, hheld]⟩

/-- The claims bound to the other slot are those of before (R92). -/
theorem orphanClaims_bound (id : SlotId) (cs : List Claim) :
    ((orphanClaims id cs).filter fun c => c.slot = some id.other) = cs.filter fun c => c.slot = some id.other := by
  have hne : ¬ (some id = some id.other) := fun e => SlotId.other_ne id (Option.some.inj e).symm
  unfold orphanClaims
  induction cs with
  | nil => rfl
  | cons c cs ih =>
    by_cases hc : c.slot = some id
    · have hnot : ¬ (c.slot = some id.other) := hc ▸ hne
      cases hp : c.phase <;> simp [hc, hp, ih, hne]
    · rw [List.filterMap_cons, if_neg hc, List.filter_cons, ih, List.filter_cons]

/-- The claims bound to a slot are read from the pending table. -/
theorem State.boundClaims_congr (h : t.sel = s.sel) (id : SlotId) : t.boundClaims id = s.boundClaims id := by
  unfold State.boundClaims
  rw [h]

/-- The claims given up do not count for the other slot's room (R8, R92). -/
theorem State.roomOf_congr (hslot : t.slot id = s.slot id) (hbound : t.boundClaims id = s.boundClaims id) : t.roomOf id = s.roomOf id := by
  unfold State.roomOf
  rw [hslot, hbound]

end

/-! ### Its first steps (R178, steps 1 to 5) -/

/-- What the first five steps of an abort leave, as far as the plan and the steps behind it see it. -/
structure State.AbortBegun (id : SlotId) (cause : AbortCause) (s b : State) : Prop where
  slot : b.slot id = { s.slot id with state := .aborted, ageDeadline := none, commitPoint := none }
  other : b.slot id.other = s.slot id.other
  bound : b.boundClaims id.other = s.boundClaims id.other
  buffers : ∀ i, b.buffer i = s.buffer i
  nextSeq : b.pkb.nextSeq = s.pkb.nextSeq
  lif : b.lif = s.lif
  oft : b.oft = s.oft
  aru : b.aru = s.aru
  mgt : b.mgt = s.mgt
  mem : b.mem = s.mem
  counts : ∀ k, k ≠ .abandonsSent → b.count k = if k = cause.counter then saturatingNext (s.count k) else s.count k

section
variable {s : State} {id : SlotId} {cause : AbortCause}

/-- The first five steps of an abort count its cause, and an ABANDON at most besides (R173, R193). -/
theorem State.abortBegin_count (hqueue : ∀ r ∈ s.fen.queue, r.slot = id) {k : Ctr} (hk : k ≠ .abandonsSent) :
    (s.abortBegin id cause).count k = (s.bump cause.counter).count k := by
  obtain ⟨p, hp⟩ := (s.bump cause.counter).triggerBeacon_eq id .aborted
  unfold State.abortBegin
  dsimp only
  rw [hp]
  generalize hv : (if (s.slot id).state.accepting = true then _ else _) = v
  obtain ⟨hcounters, hfen⟩ : v.counters = (s.bump cause.counter).counters ∧ v.fen = s.fen := by
    rw [← hv]
    split <;> exact ⟨rfl, rfl⟩
  generalize hw : State.withSel _ _ = w
  obtain ⟨fen, hfetches⟩ : ∃ fen, w.abortFetches id = w.withFen fen :=
    State.abortFetches_eq (by rw [← hw]; simpa [hfen] using hqueue)
  rw [State.abortDrain_count hk, hfetches, ← State.count_congr hcounters]
  exact State.count_congr (t := w.withFen fen) (by rw [← hw]; simp) k

theorem State.abortBegin_begun (hqueue : ∀ r ∈ s.fen.queue, r.slot = id) : State.AbortBegun id cause s (s.abortBegin id cause) := by
  have hcount (k : Ctr) (hk : k ≠ .abandonsSent) := (State.abortBegin_count (cause := cause) hqueue hk).trans (s.count_bump_eq cause.counter k)
  obtain ⟨p, fen, n, emitted, counters, heq, -⟩ := State.abortBegin_stores (cause := cause) hqueue
  have hclaims := orphanClaims_bound id s.sel.claims
  rw [heq] at hcount ⊢
  exact {
    slot := by simp
    other := by simp
    bound := hclaims
    buffers := fun i => by cases id <;> rfl
    nextSeq := by simp
    lif := by simp
    oft := by simp
    aru := by simp
    mgt := by simp
    mem := by simp
    counts := hcount }

end

/-! ### The plan (R181, R182) -/

/-- The quantities a member to be carried is tested against: the target's, or those of a pack about to form (R182). -/
def State.carryRoom (s : State) (tgt : SlotId) : Room := if (s.slot tgt).state = .free then s.emptyRoom else s.roomOf tgt

/-- Whether a member passes the room test and the buffer test of a carry (R182). -/
def State.admitsCarry (s : State) (tgt : SlotId) (m : Member) : Bool :=
  (s.carryRoom tgt).fits m.footprint && (s.carryRoom tgt).demandWith m.footprint ≤ s.bufferCount .free

/-- The copy of a member placed next in the target (R183, R184). -/
def State.copyOf (s : State) (src tgt : SlotId) (m : Member) : Copy where
  source := src
  sourceHead := m.headN
  footprint := m.footprint
  target := ⟨tgt, (s.slot tgt).members.length⟩
  targetHead := (s.slot tgt).e

/-- A member placed in the target, its copy queued (R182, R183). -/
def State.carriesIn (s : State) (src tgt : SlotId) (m : Member) : State :=
  let t := s.place tgt m.file m.key true
  (t.withAru { t.aru with copies := t.aru.copies ++ [s.copyOf src tgt m] }).bump .membersCarried

section
variable {s : State} {src tgt : SlotId} {m : Member}

theorem State.carryMembers_refused (h : s.admitsCarry tgt m = false) (rest : List Member) :
    State.carryMembers src tgt (m :: rest) s = (s, 0) := if_neg (Bool.eq_false_iff.1 h)

theorem State.carryMembers_admitted (hused : (s.slot tgt).state ≠ .free) (h : s.admitsCarry tgt m = true) (rest : List Member) :
    State.carryMembers src tgt (m :: rest) s =
      ((State.carryMembers src tgt rest (s.carriesIn src tgt m)).1, (State.carryMembers src tgt rest (s.carriesIn src tgt m)).2 + 1) := by
  refine (if_pos h).trans ?_
  rw [if_neg hused]
  rfl

/-- The members behind the first are not carried: there are none, or the second fails a test (R182). -/
theorem State.carryMembers_stops {rest : List Member} (h : ∀ n tail, rest = n :: tail → s.admitsCarry tgt n = false) :
    State.carryMembers src tgt rest s = (s, 0) := by
  cases rest with
  | nil => rfl
  | cons n tail => exact State.carryMembers_refused (h n tail rfl) tail

/-- A pack in use is tested with its own quantities (R8, R10, R182). -/
theorem State.admitsCarry_used (hused : (s.slot tgt).state ≠ .free) : s.admitsCarry tgt m = true ↔
    (s.slot tgt).e + (s.roomOf tgt).q + m.footprint + mc ((s.roomOf tgt).m + (s.roomOf tgt).k + 1) ≤ capacity (s.slot tgt).limit ∧
    (s.roomOf tgt).m + (s.roomOf tgt).k + 1 ≤ 4096 ∧
    demand (s.slot tgt).taken ((s.slot tgt).e + (s.roomOf tgt).q + m.footprint + mc ((s.roomOf tgt).m + (s.roomOf tgt).k + 1)) ≤
      s.bufferCount .free := by
  have hroom : s.carryRoom tgt = s.roomOf tgt := if_neg hused
  rw [State.admitsCarry, hroom]
  simp only [Bool.and_eq_true, Room.fits, decide_eq_true_eq, and_assoc]
  rfl

/-- A pack about to form has room for its first member up to its capacity (R182). -/
theorem State.admitsCarry_free (hfree : (s.slot tgt).state = .free) : s.admitsCarry tgt m = true ↔
    m.footprint + mc 1 ≤ capacity s.mgt.config.packLimit ∧ demand 0 (m.footprint + mc 1) ≤ s.bufferCount .free := by
  have hroom : s.carryRoom tgt = s.emptyRoom := if_pos hfree
  rw [State.admitsCarry, hroom]
  simp [State.emptyRoom, Room.fits, Room.demandWith]

end

/-! ### A member placed in an OPEN target (R105, R182) -/

/-- The slot after a carried member has been placed (R105, steps 2 to 5). -/
def Slot.withCarried (x : Slot) (m : Member) : Slot :=
  { x with
    e := x.e + footprintOf m.file.size
    members := x.members ++ [newMember m.file m.key x.e true]
    taken := max x.taken (seg (x.e + footprintOf m.file.size - 1) + 1) }

section
variable {s : State} {id : SlotId} {m : Member}

/-- The close tests and the commit test leave an OPEN pack as it is that has room above its margin, members to spare and its segment at the
commit point open (R105, step 7). -/
theorem State.placeTests_open (ho : (s.slot id).state = .opened)
    (hroom : (s.roomOf id).committed + s.mgt.config.closeMargin ≤ (s.roomOf id).u) (hlimit : (s.slot id).members.length ≠ 4096)
    (hopen : (s.slot id).segmentOpen) : (((s.testMargin id).testMemberLimit id).testClose id).testCommit id = s := by
  rw [State.testMargin_of_room hroom, State.testMemberLimit_of_ne hlimit, State.testClose_of_ne_closing (by rw [ho]; decide),
    State.testCommit, State.commitRun_of_none (State.committable_of_segmentOpen hopen)]

/-- A carried member joins the table at E, and buffers are held up to the new E (R105, steps 2 to 5). -/
def State.extendedCarried (s : State) (id : SlotId) (m : Member) : State :=
  let x := s.slot id
  let e := x.e + footprintOf m.file.size
  (s.setSlot id { x with e := e, members := x.members ++ [newMember m.file m.key x.e true] }).holdThrough id e

theorem State.extendedCarried_slot (s : State) (id : SlotId) (m : Member) :
    (s.extendedCarried id m).slot id = (s.slot id).withCarried m := by
  unfold State.extendedCarried
  rw [State.holdThrough_slot, State.setSlot_slot]
  rfl

/-- The slot and buffers that were FREE are all that changes (R144). -/
theorem State.extendedCarried_stores (s : State) (id : SlotId) (m : Member) : ∃ bufs : Vector Buffer 64,
    s.extendedCarried id m = (s.setSlot id ((s.slot id).withCarried m)).withSpl { s.spl with buffers := bufs } ∧
    ∀ i : Fin 64, (s.buffer i).state ≠ .free → bufs[i] = s.buffer i := by
  have hslot := s.extendedCarried_slot id m
  unfold State.extendedCarried at hslot ⊢
  dsimp only at hslot ⊢
  generalize ({ s.slot id with
    e := (s.slot id).e + footprintOf m.file.size
    members := (s.slot id).members ++ [newMember m.file m.key (s.slot id).e true] } : Slot) = x at hslot ⊢
  obtain ⟨bufs, heq⟩ := (s.setSlot id x).holdThrough_eq id ((s.slot id).e + footprintOf m.file.size)
  have htakes := (s.setSlot id x).holdThrough_takes id ((s.slot id).e + footprintOf m.file.size)
  rw [heq] at hslot htakes ⊢
  rw [State.setSlot_slot] at hslot
  rw [hslot] at htakes ⊢
  refine ⟨bufs, by cases id <;> rfl, fun i hi => ?_⟩
  have hsame : (s.setSlot id x).buffer i = s.buffer i := State.buffer_congr (State.setSlot_spl ..) i
  have hkept := (htakes.2 i fun j _ e => hi ?_).trans hsame
  · exact (State.buffer_congr (State.setSlot_spl ..).symm i).trans hkept
  · rw [← hsame]
    exact of_decide_eq_true (List.mem_filter.1 (List.mem_of_getElem? e)).2

/-- The room a carried member leaves is that of its test (R8). -/
theorem State.extendedCarried_committed (s : State) (id : SlotId) (m : Member) : ((s.extendedCarried id m).roomOf id).committed =
    (s.slot id).e + (s.roomOf id).q + footprintOf m.file.size + mc ((s.roomOf id).m + (s.roomOf id).k + 1) := by
  have hslot := s.extendedCarried_slot id m
  obtain ⟨bufs, heq, -⟩ := s.extendedCarried_stores id m
  have hclaims : (s.extendedCarried id m).boundClaims id = s.boundClaims id :=
    State.boundClaims_congr (by rw [heq]; exact State.setSlot_sel ..) id
  rw [State.roomOf, hslot, hclaims]
  simp only [Room.committed, Slot.withCarried, List.length_append, List.length_singleton, State.roomOf]
  rw [Nat.add_right_comm _ 1, Nat.add_right_comm _ (footprintOf _)]

/-- A placement in an OPEN target after which nothing follows: its slot and some FREE buffers are all that changes (R105, R182). -/
theorem State.place_carried (ho : (s.slot id).state = .opened)
    (hroom : (s.slot id).e + (s.roomOf id).q + footprintOf m.file.size + mc ((s.roomOf id).m + (s.roomOf id).k + 1) +
      s.mgt.config.closeMargin ≤ capacity (s.slot id).limit)
    (hlimit : (s.slot id).members.length + 1 < 4096)
    (hopen : Slot.segmentOpen { s.slot id with e := (s.slot id).e + footprintOf m.file.size }) :
    ∃ (bufs : Vector Buffer 64) (n : Nat),
      s.place id m.file m.key true =
        ((s.setSlot id ((s.slot id).withCarried m)).withSpl { s.spl with buffers := bufs, promised := n }).wakeUp ∧
      ∀ i : Fin 64, (s.buffer i).state ≠ .free → bufs[i] = s.buffer i := by
  have hplace : s.place id m.file m.key true =
      (let t := s.extendedCarried id m
      let t := (if (t.slot id).state = .forming then t.openPack id m.key else t).recomputePromised
      (((t.testMargin id).testMemberLimit id).testClose id).testCommit id).wakeUp := rfl
  have hslot := s.extendedCarried_slot id m
  have hcommitted := s.extendedCarried_committed id m
  obtain ⟨bufs, heq, hkept⟩ := s.extendedCarried_stores id m
  have hmgt : (s.extendedCarried id m).mgt = s.mgt := by rw [heq]; exact State.setSlot_mgt ..
  have hcapacity : ((s.extendedCarried id m).roomOf id).u = capacity (s.slot id).limit := by rw [State.roomOf, hslot]; rfl
  generalize s.extendedCarried id m = t at *
  have hopened : ¬ (t.slot id).state = .forming := by
    rw [hslot]
    exact fun h => nomatch ho.symm.trans h
  have htests : (((t.recomputePromised.testMargin id).testMemberLimit id).testClose id).testCommit id = t.recomputePromised := by
    refine State.placeTests_open (s := t.recomputePromised) ?_ ?_ ?_ ?_
    · rw [State.recomputePromised_slot, hslot]
      exact ho
    · rw [State.recomputePromised_roomOf, State.recomputePromised_mgt, hcommitted, hcapacity, hmgt]
      exact hroom
    · rw [State.recomputePromised_slot, hslot]
      simp only [Slot.withCarried, List.length_append, List.length_singleton]
      omega
    · rw [State.recomputePromised_slot, hslot]
      exact hopen
  dsimp only at hplace
  rw [if_neg hopened, htests, heq] at hplace
  exact ⟨bufs, _, hplace, hkept⟩

end

end Sys2Proof.Machine

/-! ## An abort that carries no member out, and one that carries its first (R179 to R183, R186, R189, R190) -/

namespace Sys2Proof.Machine

/-! ### What the plan leaves (R182, R183) -/

section
variable {s : State} {id : SlotId}

theorem State.freeUntouched_onlyBuffers (s : State) (id : SlotId) (ms : List Member) : s.OnlyBuffers (s.freeUntouched id ms) :=
  (s.freeUntouched_freesOnly id ms).1

/-- A plan that carries no member frees the pack's buffers, and is counted where a member was offered (R182, R183, R193). -/
theorem State.abortPlan_uncarried {offered : List Member} {target : Option SlotId} (h : ∀ tgt, target = some tgt →
    ∃ m rest, offered = m :: rest ∧ (s.freeUntouched id offered).admitsCarry tgt m = false) :
    ∃ u, s.abortPlan id offered target = (if offered = [] then u else u.bump .carriesWithoutTarget, 0) ∧ s.OnlyBuffers u ∧
      ∀ i, u.buffer i = if s.heldByPack id i = true then ⟨.free, none⟩ else s.buffer i := by
  generalize hms : (if target.isSome then offered else []) = ms
  obtain ⟨honly, hbuffer⟩ := (s.freeUntouched id ms).holdOrFree_pass id []
  refine ⟨(s.freeUntouched id ms).holdOrFree id [], ?_, (s.freeUntouched_onlyBuffers id ms).trans honly, fun i => ?_⟩
  · have hcarried : (match target with
        | some t => State.carryMembers id t offered (s.freeUntouched id ms)
        | none => (s.freeUntouched id ms, 0)) = (s.freeUntouched id ms, 0) := by
      cases target with
      | none => rfl
      | some tgt =>
        obtain ⟨m, rest, rfl, hrefused⟩ := h tgt rfl
        subst hms
        exact State.carryMembers_refused hrefused rest
    unfold State.abortPlan
    rw [hms]
    dsimp only
    refine (congrArg (fun r : State × Nat => (if !offered.isEmpty && decide (r.2 = 0) then
      (r.1.holdOrFree id (offered.take r.2)).bump .carriesWithoutTarget else r.1.holdOrFree id (offered.take r.2), r.2)) hcarried).trans ?_
    cases offered <;> simp
  · rw [hbuffer, State.heldOrFree, State.bufferTouched_nil, if_neg Bool.false_ne_true]
    have hfirst := s.freeUntouched_buffer id ms i
    by_cases hfreed : (s.heldByPack id i && !s.bufferTouched i ms) = true
    · rw [if_pos hfreed] at hfirst
      rw [State.heldByPack_free hfirst, if_neg Bool.false_ne_true, hfirst, if_pos (Bool.and_eq_true_iff.1 hfreed).1]
    · rw [if_neg hfreed] at hfirst
      rw [State.heldByPack_congr hfirst, hfirst]

/-- A plan that carries the first offered member and no other (R182, R183). -/
theorem State.abortPlan_first {tgt : SlotId} {m : Member} {rest : List Member}
    (hused : ((s.freeUntouched id (m :: rest)).slot tgt).state ≠ .free)
    (hadmits : (s.freeUntouched id (m :: rest)).admitsCarry tgt m = true)
    (hstops : ∀ n tail, rest = n :: tail → ((s.freeUntouched id (m :: rest)).carriesIn id tgt m).admitsCarry tgt n = false) :
    s.abortPlan id (m :: rest) (some tgt) = (((s.freeUntouched id (m :: rest)).carriesIn id tgt m).holdOrFree id [m], 1) := by
  have hcarried := State.carryMembers_admitted (src := id) hused hadmits rest
  rw [State.carryMembers_stops hstops] at hcarried
  unfold State.abortPlan
  rw [if_pos (by rfl)]
  dsimp only
  rw [hcarried]
  rfl

end

/-! ### The steps of the abort (R178) -/

section
variable {s : State} {id : SlotId} {cause : AbortCause} {offered : List Member} {target : Option SlotId} {rs : List Release}

/-- The releases join the list where it has room, and where there are none it stays as it is (R187, R189). -/
theorem State.queueReleases_joined (h : rs = [] ∨ s.aru.releases.length + rs.length ≤ 8200) : ∃ counters : Vector Counter 84,
    s.queueReleases rs = (s.withAru { s.aru with releases := s.aru.releases ++ rs }).withCounters counters := by
  rcases h with rfl | hroom
  · exact ⟨s.counters, by rw [List.append_nil]; rfl⟩
  · obtain ⟨counters, releases, heq, hjoined⟩ := s.queueReleases_eq rs
    rw [hjoined hroom] at heq
    exact ⟨counters, heq⟩

/-- The abort of a pack, from what is offered, the target and the plan (R178, steps 6 to 8). -/
theorem State.abortPack_run {u : State} {n : Nat} (ha : (s.slot id).state.abortable = true)
    (hoffered : (if cause.plansCarry = true then (s.abortBegin id cause).offeredMembers id else []) = offered)
    (htarget : (if offered.isEmpty = true then none else (s.abortBegin id cause).carryTarget id) = target)
    (hplan : (s.abortBegin id cause).abortPlan id offered target = (u, n))
    (hrs : abortReleases cause.reason
      (fun m => cause.plansCarry && decide (m.state = .done) && (s.abortBegin id cause).qualifies id m) target.isSome n
      ((s.abortBegin id cause).slot id).members = rs) :
    s.abortPack id cause = ((u.queueReleases rs).stopCarryInto id s.aru.copies).abortFinish id n
      { s.abortedRecord id cause with carriedOut := n, released := (s.abortedRecord id cause).released + rs.length } := by
  unfold State.abortPack
  rw [if_pos ha]
  simp only [hoffered, htarget, hplan, hrs]

/-- What an abort that carries no member leaves ahead of its last steps: the slot ABORTED, the pack's buffers FREE, and these releases
queued (R183, R189). -/
structure State.GivenBack (id : SlotId) (cause : AbortCause) (rs : List Release) (s v : State) : Prop where
  slot : (v.slot id).state = .aborted
  other : v.slot id.other = s.slot id.other
  aru : v.aru = { s.aru with releases := s.aru.releases ++ rs }
  mgt : v.mgt = s.mgt
  mem : v.mem = s.mem
  buffers : ∀ i, v.buffer i = if s.heldByPack id i = true then ⟨.free, none⟩ else s.buffer i
  counts : ∀ k ∉ [cause.counter, .abandonsSent, .carriesWithoutTarget, .releasesQueued, .releaseOverflows], v.count k = s.count k

/-- The abort of a pack that carries no member out, up to the stopping of a carry into it (R178 to R183, R189). -/
theorem State.abortPack_givenBack (ha : (s.slot id).state.abortable = true) (hqueue : ∀ r ∈ s.fen.queue, r.slot = id)
    (hoffered : (if cause.plansCarry = true then (s.abortBegin id cause).offeredMembers id else []) = offered)
    (htarget : (if offered.isEmpty = true then none else (s.abortBegin id cause).carryTarget id) = target)
    (hrefused : ∀ tgt, target = some tgt →
      ∃ m rest, offered = m :: rest ∧ ((s.abortBegin id cause).freeUntouched id offered).admitsCarry tgt m = false)
    (hrs : abortReleases cause.reason
      (fun m => cause.plansCarry && decide (m.state = .done) && (s.abortBegin id cause).qualifies id m) target.isSome 0
      ((s.abortBegin id cause).slot id).members = rs)
    (hroom : s.aru.releases.length + rs.length ≤ 8200) :
    ∃ v, State.GivenBack id cause rs s v ∧
      (offered ≠ [] → v.count .carriesWithoutTarget = saturatingNext (s.count .carriesWithoutTarget)) ∧
      s.abortPack id cause = (v.stopCarryInto id s.aru.copies).abortFinish id 0
        { s.abortedRecord id cause with carriedOut := 0, released := (s.abortedRecord id cause).released + rs.length } := by
  have hbegun := State.abortBegin_begun (cause := cause) hqueue
  obtain ⟨u, hplan, ⟨bufs, w, hu⟩, hbuffers⟩ := State.abortPlan_uncarried hrefused
  have hrun := State.abortPack_run ha hoffered htarget hplan hrs
  generalize s.abortBegin id cause = b at *
  generalize hcounted : (if offered = [] then u else u.bump .carriesWithoutTarget) = c at hrun
  obtain ⟨counters, hc⟩ : ∃ counters, c = ((b.withSpl { b.spl with buffers := bufs }).withWake w).withCounters counters := by
    rw [← hcounted, hu]
    split <;> exact ⟨_, rfl⟩
  have hccount (k : Ctr) : c.count k =
      if offered ≠ [] ∧ k = .carriesWithoutTarget then saturatingNext (b.count k) else b.count k := by
    have hucount : u.count k = b.count k := State.count_congr (by rw [hu]; rfl) k
    rw [← hcounted]
    by_cases ho : offered = []
    · simp [ho, hucount]
    · simp [ho, State.count_bump_eq, hucount]
  have hcbuffer (i : Fin 64) : c.buffer i = u.buffer i := by rw [hc, hu]; rfl
  have hcaru : c.aru = s.aru := by rw [hc]; exact hbegun.aru
  obtain ⟨counters', hqueued⟩ := State.queueReleases_joined (s := c) (rs := rs) (.inr (by rw [hcaru]; exact hroom))
  refine ⟨_, ?_, fun ho => ?_, hrun⟩
  · exact {
      slot := by rw [hqueued, hc]; simp [hbegun.slot]
      other := by rw [hqueued, hc]; simp [hbegun.other]
      aru := by rw [hqueued, hc]; simp [hbegun.aru]
      mgt := by rw [hqueued, hc]; simp [hbegun.mgt]
      mem := by rw [hqueued, hc]; simp [hbegun.mem]
      buffers := fun i => by
        have hsame : (c.queueReleases rs).buffer i = c.buffer i := by rw [hqueued]; rfl
        rw [hsame, hcbuffer, hbuffers, hbegun.buffers, State.heldByPack_congr (hbegun.buffers i)]
      counts := fun k hk => by
        simp only [List.mem_cons, List.not_mem_nil, or_false, not_or] at hk
        obtain ⟨hcause, habandon, hwithout, hreleased, hover⟩ := hk
        rw [State.queueReleases_count hreleased hover, hccount, if_neg fun h => hwithout h.2, hbegun.counts k habandon, if_neg hcause] }
  · rw [State.queueReleases_count (by decide) (by decide), hccount, if_pos ⟨ho, rfl⟩, hbegun.counts _ (by decide),
      if_neg (by cases cause <;> decide)]

end

end Sys2Proof.Machine

/-! ## The ends of a carry: completion, WITHDRAW, abort of the target (R184 to R186, R189, R190) -/

namespace Sys2Proof.Machine

/-! ### Counted many times (Conventions, "Counters") -/

theorem saturatingNext_toNat (n : Counter) : (saturatingNext n).toNat = min (2 ^ 32 - 1) (n.toNat + 1) := by
  have hlt := n.isLt
  unfold saturatingNext
  split
  · next h => simp [h]
  · next h =>
    have hne : n.toNat ≠ 2 ^ 32 - 1 := fun e => h (BitVec.eq_of_toNat_eq (by simpa using e))
    rw [BitVec.toNat_add]
    simp
    omega

theorem State.count_bumpBy (s : State) (c : Ctr) (n : Nat) :
    ((s.bumpBy c n).count c).toNat = min (2 ^ 32 - 1) ((s.count c).toNat + n) := by
  induction n generalizing s with
  | zero =>
    have hlt := (s.count c).isLt
    simp only [State.bumpBy]
    omega
  | succ n ih =>
    rw [State.bumpBy, ih, State.count_bump, saturatingNext_toNat]
    omega

/-! ### The abort of the target (R186) -/

section
variable {s v : State} {src : SlotId} {r own : PackRecord}

/-- A carry that is stopped: its copies are counted, the buffers HELD for it are FREE, its record is queued, and its slot is FREE (R186). -/
theorem State.stopCarry_stores (hsrc : (s.slot src).state = .carrying) (hother : (s.slot src.other).state ≠ .carrying)
    (hr : (s.slot src).record = some r) : ∃ (bufs : Vector Buffer 64) (counters : Vector Counter 84),
      s.stopCarry = (((((s.withAru { s.aru with copies := [] }).withCounters counters).withSpl { s.spl with buffers := bufs }).withMgt
        { s.mgt with records := s.mgt.records ++ [r] }).setSlot src {}).wakeUp ∧
      (∀ i : Fin 64, bufs[i] = if s.heldFor src i = true then ⟨.free, none⟩ else s.buffer i) ∧
      (s.stopCarry.count .copiesStopped).toNat = min (2 ^ 32 - 1) ((s.count .copiesStopped).toNat + s.aru.copies.length) := by
  obtain ⟨counters, hcounters⟩ := (s.withAru { s.aru with copies := [] }).bumpBy_eq .copiesStopped s.aru.copies.length
  have hcounted := (s.withAru { s.aru with copies := [] }).count_bumpBy .copiesStopped s.aru.copies.length
  have hstop : s.stopCarry = ((s.withAru { s.aru with copies := [] }).bumpBy .copiesStopped s.aru.copies.length).endCarry := rfl
  rw [hcounters] at hstop hcounted
  rw [State.endCarry_eq (State.carryingSlot_eq (s := (s.withAru { s.aru with copies := [] }).withCounters counters) hsrc hother)] at hstop
  have hbuffer := ((s.withAru { s.aru with copies := [] }).withCounters counters).freeHeld_buffer src
  obtain ⟨⟨bufs, w, heq⟩, -⟩ := ((s.withAru { s.aru with copies := [] }).withCounters counters).freeHeld_freesOnly src
  rw [heq] at hstop hbuffer
  refine ⟨bufs, counters, hstop.trans ?_, hbuffer, ?_⟩
  · have hr' : (((s.withAru { s.aru with copies := [] }).withCounters counters).slot src).record = some r := hr
    rw [hr']
    cases src <;> rfl
  · refine Eq.trans ?_ hcounted
    rw [hstop]
    exact congrArg BitVec.toNat (State.count_congr (State.setSlot_counters ..) _)

/-- No pack is carried into a slot that is CARRYING itself (R181). -/
theorem State.carryTarget_carrying {id : SlotId} (h : (s.slot id.other).state = .carrying) : s.carryTarget id = none := by
  simp only [State.carryTarget, h]

/-- A carry into a given-up pack is stopped, and the pack's own record joins the queue behind the carry's (R186, R190). -/
theorem State.stopCarryInto_finish {copies : List Copy} (hne : copies ≠ []) (hinto : ∀ c ∈ copies, c.target.slot = src.other)
    (hv : (v.slot src.other).state = .aborted) (hsrc : (v.slot src).state = .carrying) (hr : (v.slot src).record = some r) :
    let t := (v.stopCarryInto src.other copies).abortFinish src.other 0 own
    (∀ id, t.slot id = {}) ∧ t.aru = { v.aru with copies := [] } ∧ t.mgt = { v.mgt with records := v.mgt.records ++ [r, own] } ∧
      (∀ i, t.buffer i = if v.heldFor src i = true then ⟨.free, none⟩ else v.buffer i) ∧
      (t.count .copiesStopped).toNat = min (2 ^ 32 - 1) ((v.count .copiesStopped).toNat + v.aru.copies.length) := by
  have hany : (copies.any fun c => c.target.slot = src.other) = true := by
    obtain ⟨c, hc⟩ := List.exists_mem_of_ne_nil copies hne
    exact List.any_eq_true.2 ⟨c, hc, decide_eq_true (hinto c hc)⟩
  obtain ⟨bufs, counters, hstop, hbuffer, hcount⟩ := State.stopCarry_stores hsrc (by rw [hv]; decide) hr
  have hinto' : v.stopCarryInto src.other copies = v.stopCarry := if_pos hany
  have haborted : (v.stopCarry.slot src.other).state = .aborted := by
    rw [hstop, State.wakeUp_slot, State.setSlot_slot_other]
    exact hv
  dsimp only
  rw [hinto', State.abortFinish_uncarried haborted]
  have hcounters : ((v.stopCarry.queueRecord own).clearSlot src.other).count .copiesStopped = v.stopCarry.count .copiesStopped :=
    State.count_congr (State.setSlot_counters ..) _
  rw [hcounters]
  refine ⟨fun id => ?_, ?_, ?_, fun i => ?_, hcount⟩
  · rw [hstop]
    cases src <;> cases id <;> rfl
  · rw [hstop]
    simp [State.clearSlot]
  · rw [hstop]
    simp [State.clearSlot, State.queueRecord]
  · refine Eq.trans ?_ (hbuffer i)
    rw [hstop]
    cases src <;> rfl

end

/-! ### The commands -/

section
variable {s : State}

/-- The step of the completion of the front copy into an OPEN pack (R184). -/
theorem exec_copyCompletion_front {c : Copy} {rest : List Copy} (hc : s.aru.copies = c :: rest)
    (ho : (s.slot c.target.slot).state = .opened) (hs : (s.slot c.target.slot).segmentOpen) :
    ∃ mem, exec .copyCompletion s =
      .next (s.begin.copyGone c.target Member.copied mem rest .copiesCompleted).afterCopy.startCopies.settle := by
  obtain ⟨mem, hcomplete⟩ := State.completeCopy_open (s := s.begin) hc ho hs
  have hsome : ¬ s.aru.copies.isEmpty = true := by
    rw [hc]
    exact Bool.false_ne_true
  refine ⟨mem, congrArg Host.Outcome.next ((if_neg hsome).trans ?_)⟩
  rw [hcomplete]

/-- The step of a WITHDRAW of a COPYING member of an OPEN pack (R112, R185). -/
theorem exec_withdraw_copying {f : Frame} {sender : Station} {ticket : Word32} {r : MemberRef} {m : Member}
    (hacc : s.accepts 0x22#8 f sender) (hread : readWithdraw f sender = some ticket) (hlist : s.candidate? ⟨sender, ticket⟩ = none)
    (hclaim : s.claim? ⟨sender, ticket⟩ = none) (hr : s.liveMember ⟨sender, ticket⟩ = some r) (hm : s.member? r = some m)
    (hst : m.state = .copying) (ho : (s.slot r.slot).state = .opened) (hs : (s.slot r.slot).segmentOpen) :
    exec (.withdraw f) s = .next ((s.begin.bump .framesAccepted).copyGone r Member.withdrawn s.mem
      (s.aru.copies.filter fun c => c.target ≠ r) .copiesStopped).afterCopy.startCopies.settle := by
  have hexec := exec_withdraw_frame hacc hread
  rw [State.withdrawArrives_member (s := s.begin.bump .framesAccepted) hlist hclaim,
    State.withdrawnMember_copying (s := s.begin.bump .framesAccepted) hr hm ho hst,
    State.withdrawCopying_open (s := s.begin.bump .framesAccepted) ho hs] at hexec
  exact hexec

end

end Sys2Proof.Machine

namespace Sys2Proof

section
open Machine

/-- Settles O44: a copy that leaves the queue ends the carry where it was the last, and so does the abort of the target. -/
theorem carryEnds : Obligations.CarryEnds := by
  intro src r s hsrc hr hother tgt idle
  have hidle : s.heldFreed = idle := rfl
  refine ⟨?_, ?_, ?_⟩
  · intro c m hc htgt hm hst ho hs hl hn
    have ho' : (s.slot c.target.slot).state = .opened := htgt ▸ ho
    obtain ⟨mem, hexec⟩ := exec_copyCompletion_front hc ho' (htgt ▸ hs)
    rw [State.settle_copyGone_last (s := s.begin) ho' hl hn rfl rfl htgt hsrc hr] at hexec
    have hmember := s.begin.copyGone_member c.target Member.copied mem [] .copiesCompleted hm
    obtain ⟨-, -, hmgt, hspl, -, hcounters⟩ := s.begin.copyGone_frame c.target Member.copied mem [] .copiesCompleted
    have haru : (s.begin.copyGone c.target Member.copied mem [] .copiesCompleted).aru = { s.aru with copies := [] } := rfl
    generalize s.begin.copyGone _ _ _ _ _ = v at *
    obtain ⟨tslot, taru, tmgt, tspl, -, tcounters⟩ := v.carryEnded_frame src r
    refine ⟨_, hexec, v.carryEnded_slot src r, ?_, taru.trans haru, ?_, ?_, fun k => ?_⟩
    · have hcopied : m.copied = { m with state := .done } := if_pos hst
      rw [State.member?, htgt, tslot, ← hcopied, ← hmember, State.member?, htgt]
    · rw [tmgt, hmgt]
      rfl
    · rw [tspl, State.heldFreed_congr hspl]
      exact hidle
    · rw [State.count_congr tcounters, State.count_congr hcounters, State.count_bump_eq]
      rfl
  · intro f sender ticket ref m hacc hread hlist hclaim href hrtgt hm hst ho hs hl hn hdata left needed
    have ho' : (s.slot ref.slot).state = .opened := hrtgt ▸ ho
    have hexec := exec_withdraw_copying hacc hread hlist hclaim href hm hst ho' (hrtgt ▸ hs)
    let a := s.begin.bump .framesAccepted
    have hlast := State.settle_copyGone_last (s := a) (f := Member.withdrawn) (mem := s.mem) (rest := left) (k := .copiesStopped)
      (src := src) (record := r) ho' hl hn rfl
    have hmore := State.settle_copyGone_more (s := a) (f := Member.withdrawn) (mem := s.mem) (rest := left) (k := .copiesStopped)
      ho' hl hn rfl
    have hmember := a.copyGone_member ref Member.withdrawn s.mem left .copiesStopped hm
    have hbeside := a.copyGone_slot_other ref Member.withdrawn s.mem left .copiesStopped (id := src)
      (by rw [hrtgt]; exact (SlotId.other_ne src).symm)
    obtain ⟨-, -, hmgt, hspl, -, hcounters⟩ := a.copyGone_frame ref Member.withdrawn s.mem left .copiesStopped
    have haru : (a.copyGone ref Member.withdrawn s.mem left .copiesStopped).aru = { s.aru with copies := left } := rfl
    have hmem : (a.copyGone ref Member.withdrawn s.mem left .copiesStopped).mem = s.mem := rfl
    have hcount (k : Ctr) : (a.copyGone ref Member.withdrawn s.mem left .copiesStopped).count k =
        if k = .framesAccepted ∨ k = .copiesStopped then saturatingNext (s.count k) else s.count k := by
      rw [State.count_congr hcounters]
      refine (State.count_foldl_bump (ks := [.framesAccepted, .copiesStopped]) (by decide) s.begin k).trans ?_
      simp only [List.mem_cons, List.not_mem_nil, or_false]
      rfl
    change exec (.withdraw f) s = .next (a.copyGone ref Member.withdrawn s.mem left .copiesStopped).afterCopy.startCopies.settle at hexec
    generalize a.copyGone _ _ _ _ _ = v at *
    by_cases hleft : left = []
    · rw [hlast hleft hrtgt hsrc hr] at hexec
      obtain ⟨tslot, taru, tmgt, tspl, tmem, tcounters⟩ := v.carryEnded_frame src r
      refine ⟨_, hexec, ?_, taru.trans haru, tmem.trans hmem, fun k => (State.count_congr tcounters k).trans (hcount k),
        fun _ => ⟨v.carryEnded_slot src r, ?_, ?_⟩, fun d rest h => nomatch hleft.symm.trans h⟩
      · refine Eq.trans ?_ hmember
        rw [State.member?, State.member?, hrtgt, tslot]
      · rw [tmgt, hmgt]
        rfl
      · rw [tspl, State.heldFreed_congr hspl]
        exact hidle
    · obtain ⟨bufs, hstep, hbufs⟩ := hmore hleft fun d hd => hdata d (List.mem_of_mem_filter hd)
      rw [hstep] at hexec
      refine ⟨_, hexec, hmember, haru, hmem, hcount, fun h => absurd h hleft, fun _ _ _ => ⟨hbeside, hmgt, hbufs⟩⟩
  · intro cause key open_ ha hkey hopen hcopies hinto hqueue hroom x live t
    have hlive : s.packReleases cause.reason tgt = live.map fun m => ⟨m.file.pair, if cause = .restart then .restart else .abort⟩ := by
      rw [State.packReleases, AbortCause.reason_eq]
    have hlength : (s.packReleases cause.reason tgt).length = live.length := List.length_map _
    have hfewer : live.length ≤ (s.slot tgt).members.length := List.length_filter_le ..
    have hback : tgt.other = src := SlotId.other_other src
    have hbegun := State.abortBegin_begun (cause := cause) hqueue
    have htarget : (s.abortBegin tgt cause).carryTarget tgt = none :=
      State.carryTarget_carrying (by rw [hbegun.other, hback]; exact hsrc)
    obtain ⟨v, hv, -, ht⟩ := State.abortPack_givenBack (target := none) ha hqueue rfl (by rw [htarget, ite_self]) nofun
      (rs := s.packReleases cause.reason tgt) (by
        rw [Option.isSome_none, abortReleases_untargeted, hbegun.slot]
        rfl) (by omega)
    have hvsrc : v.slot src = s.slot src := hback ▸ hv.other
    obtain ⟨tslots, taru, tmgt, tbuffers, tcount⟩ := State.stopCarryInto_finish (own := s.uncarriedRecord tgt cause)
      hcopies hinto hv.slot (hvsrc ▸ hsrc) (hvsrc ▸ hr)
    have ht' : t = (v.stopCarryInto tgt s.aru.copies).abortFinish tgt 0 (s.uncarriedRecord tgt cause) := ht
    rw [← ht'] at tslots taru tmgt tbuffers tcount
    refine ⟨tslots, ?_, ⟨s.uncarriedRecord tgt cause, ?_, rfl, rfl, rfl, rfl, rfl, ?_⟩, fun i => ?_, ?_⟩
    · rw [taru, hv.aru, ← hlive]
    · rw [tmgt, hv.mgt]
    · exact congrArg (_ + ·) hlength
    · have hvbuffer := hv.buffers i
      rw [tbuffers]
      by_cases hp : s.heldByPack tgt i = true
      · rw [if_pos hp] at hvbuffer
        rw [hvbuffer, ite_self, if_pos (.inl hp)]
      · rw [if_neg hp] at hvbuffer
        have hfor := v.heldFor_iff src i
        rw [hvbuffer] at hfor ⊢
        exact if_congr (hfor.trans (or_iff_right hp).symm) rfl rfl
    · rw [tcount, hv.aru, hv.counts .copiesStopped (by cases cause <;> decide)]

end

end Sys2Proof

/-! ## The abort of a pack whose members are all offered (R179 to R183, R189, R190, R193) -/

namespace Sys2Proof.Machine

/-! ### Releases and record -/

/-- With a target, and every member offered, all but the first n are released with FULL (R179, R189). -/
theorem abortReleases_offered {reason : ReleaseReason} {offers : Member → Bool} {ms : List Member}
    (h : ∀ m ∈ ms, m.state.isVoid = false ∧ offers m = true) (n : Nat) :
    abortReleases reason offers true n ms = (ms.drop n).map fun m => ⟨m.file.pair, .full⟩ := by
  induction ms generalizing n with
  | nil => rw [List.drop_nil]; rfl
  | cons m ms ih =>
    obtain ⟨hvoid, hoffers⟩ := h m List.mem_cons_self
    have ih := ih fun x hx => h x (List.mem_cons_of_mem m hx)
    cases n with
    | zero => simpa [abortReleases, hvoid, hoffers] using ih 0
    | succ n => simpa [abortReleases, hvoid, hoffers] using ih n

/-- The record an abort completes at its last steps (R183, R190). -/
def State.completedRecord (s : State) (id : SlotId) (cause : AbortCause) (carried released : Nat) : PackRecord :=
  { s.abortedRecord id cause with carriedOut := carried, released := (s.abortedRecord id cause).released + released }

theorem State.completedRecord_done {s : State} {id : SlotId} {key open_ : Word64} (cause : AbortCause)
    (hkey : (s.slot id).primaryKey = some key) (hopen : (s.slot id).openTime = some open_)
    (hdone : ∀ n ∈ (s.slot id).members, n.state = .done) (carried released : Nat) : s.completedRecord id cause carried released =
      { station := s.lif.station, epoch := s.mgt.config.epoch, seq := (s.slot id).seq, outcome := .aborted cause, segments := s.storedCount id,
        members := (s.slot id).members.length, voids := 0, carriedOut := carried,
        released := (s.slot id).members.countP Member.released + released, key := key, openTime := open_, closeTime := s.timestamp } := by
  have hvoids : (s.slot id).members.countP (fun m => m.state.isVoid) = 0 :=
    List.countP_eq_zero.2 fun m hm => by rw [hdone m hm]; exact Bool.false_ne_true
  simp only [State.completedRecord, State.abortedRecord, hvoids, hkey, hopen, Option.getD_some]

/-! ### The target and its tests (R181, R182) -/

section
variable {s b : State} {id : SlotId} {cause : AbortCause} {m : Member}

/-- A pack that has been aborted leaves room for another in the other slot while the records queued and the two packs stay within 32, and a
sequence is left (R101). -/
theorem State.canForm_beside (hown : (b.slot id).state = .aborted) (hfree : (b.slot id.other).state = .free) :
    b.canForm = true ↔ b.mgt.records.length < 31 ∧ b.pkb.nextSeq ≠ BitVec.allOnes 32 := by
  have hacc : b.accepting = none := State.accepting_eq_none (id := id) (by rw [hown]; rfl) (by rw [hfree]; rfl)
  cases id <;> simp_all [State.slot, SlotId.other, State.canForm, State.slotsInUse, SlotState.inUse] <;> omega

theorem State.carryTarget_accepting (h : (b.slot id.other).state = .opened ∨ (b.slot id.other).state = .forming) :
    b.carryTarget id = some id.other := by
  rcases h with h | h <;> simp only [State.carryTarget, h]

theorem State.carryTarget_forms (hown : (b.slot id).state = .aborted) (hfree : (b.slot id.other).state = .free)
    (hseq : b.pkb.nextSeq ≠ BitVec.allOnes 32) (hrecords : b.mgt.records.length < 31) : b.carryTarget id = some id.other := by
  simp only [State.carryTarget, hfree, (State.canForm_beside hown hfree).2 ⟨hrecords, hseq⟩, if_true]

/-- There is no target where the other slot holds a pack that takes no more members, or is FREE where no pack can form (R181). -/
theorem State.carryTarget_none (hown : (b.slot id).state = .aborted)
    (h : (b.slot id.other).state = .closing ∨ (b.slot id.other).state = .closed ∨ (b.slot id.other).state = .ending ∨
      ((b.slot id.other).state = .free ∧ (b.pkb.nextSeq = BitVec.allOnes 32 ∨ 31 ≤ b.mgt.records.length))) : b.carryTarget id = none := by
  rcases h with h | h | h | ⟨hfree, h⟩
  · simp only [State.carryTarget, h]
  · simp only [State.carryTarget, h]
  · simp only [State.carryTarget, h]
  · have hforms : ¬ b.canForm = true := fun hc => by
      obtain ⟨hrecords, hseq⟩ := (State.canForm_beside hown hfree).1 hc
      exact h.elim hseq fun hfull => by omega
    simp only [State.carryTarget, hfree, if_neg hforms]

/-- The first pass over the buffers leaves everything else as it is (R182). -/
theorem State.freeUntouched_frame (b : State) (id : SlotId) (ms : List Member) : (b.freeUntouched id ms).pkb = b.pkb ∧
    (b.freeUntouched id ms).sel = b.sel ∧ (b.freeUntouched id ms).lif = b.lif ∧ (b.freeUntouched id ms).oft = b.oft ∧
    (b.freeUntouched id ms).aru = b.aru ∧ (b.freeUntouched id ms).mgt = b.mgt ∧ (b.freeUntouched id ms).mem = b.mem ∧
    (b.freeUntouched id ms).counters = b.counters := by
  obtain ⟨bufs, w, heq⟩ := b.freeUntouched_onlyBuffers id ms
  rw [heq]
  exact ⟨rfl, rfl, rfl, rfl, rfl, rfl, rfl, rfl⟩

theorem State.AbortBegun.slot_untouched (h : State.AbortBegun id cause s b) (ms : List Member) :
    (b.freeUntouched id ms).slot id.other = s.slot id.other :=
  (State.slot_of_pkb (b.freeUntouched_frame id ms).1 _).trans h.other

theorem State.AbortBegun.roomOf_untouched (h : State.AbortBegun id cause s b) (ms : List Member) :
    (b.freeUntouched id ms).roomOf id.other = s.roomOf id.other := by
  obtain ⟨-, hsel, -⟩ := b.freeUntouched_frame id ms
  exact State.roomOf_congr (h.slot_untouched ms) ((State.boundClaims_congr hsel _).trans h.bound)

theorem State.AbortBegun.count_untouched (h : State.AbortBegun id cause s b) (ms : List Member) :
    (b.freeUntouched id ms).bufferCount .free = s.freeBeside id ms :=
  (b.freeUntouched_count id ms).trans (State.freeBeside_congr h.buffers id ms)

/-- The usable number a pack in use must reach up to for one more member, its claims and its manifest (R8). -/
def State.through (s : State) (tgt : SlotId) (m : Member) : Nat :=
  (s.slot tgt).e + (s.roomOf tgt).q + m.footprint + mc ((s.slot tgt).members.length + (s.boundClaims tgt).length + 1)

/-- The first member's tests against a target in use, in the quantities of before the abort (R8, R10, R182). -/
theorem State.AbortBegun.admits_used (h : State.AbortBegun id cause s b) (ms : List Member) (hused : (s.slot id.other).state ≠ .free) :
    (b.freeUntouched id ms).admitsCarry id.other m = true ↔ s.through id.other m ≤ capacity (s.slot id.other).limit ∧
      (s.slot id.other).members.length + (s.boundClaims id.other).length + 1 ≤ 4096 ∧
      demand (s.slot id.other).taken (s.through id.other m) ≤ s.freeBeside id ms := by
  have hslot := h.slot_untouched ms
  rw [State.admitsCarry_used (by rw [hslot]; exact hused), h.roomOf_untouched ms, h.count_untouched ms, hslot]
  rfl

/-- The first member's tests against a pack about to form (R182). -/
theorem State.AbortBegun.admits_free (h : State.AbortBegun id cause s b) (ms : List Member) (hfree : (s.slot id.other).state = .free) :
    (b.freeUntouched id ms).admitsCarry id.other m = true ↔
      m.footprint + mc 1 ≤ capacity s.mgt.config.packLimit ∧ demand 0 (m.footprint + mc 1) ≤ s.freeBeside id ms := by
  obtain ⟨-, -, -, -, -, hmgt, -⟩ := b.freeUntouched_frame id ms
  rw [State.admitsCarry_free (by rw [h.slot_untouched ms]; exact hfree), h.count_untouched ms, hmgt, h.mgt]

end

/-! ### Every member offered (R180) -/

/-- A pack that can be aborted, for a cause that plans a carry, with every member offered, no copy queued, and no member of the other slot
waiting for a fetch. -/
structure State.OffersAll (s : State) (id : SlotId) (cause : AbortCause) : Prop where
  plans : cause.plansCarry = true
  abortable : (s.slot id).state.abortable = true
  done : ∀ n ∈ (s.slot id).members, n.state = .done
  qualify : ∀ n ∈ (s.slot id).members, s.qualifies id n = true
  copies : s.aru.copies = []
  queue : ∀ q ∈ s.fen.queue, q.slot = id

/-- What an abort leaves that carries no member of these out: they are released with this reason, the pack's record is queued, its slot is FREE
and its buffers are, and the carry without target is counted (R183, R189, R190, R193). -/
structure State.NoneCarried (id : SlotId) (cause : AbortCause) (reason : ReleaseReason) (s t : State) : Prop where
  slot : t.slot id = {}
  other : t.slot id.other = s.slot id.other
  aru : t.aru = { s.aru with releases := s.aru.releases ++ (s.slot id).members.map fun n => ⟨n.file.pair, reason⟩ }
  mgt : t.mgt = { s.mgt with records := s.mgt.records ++ [s.completedRecord id cause 0 (s.slot id).members.length] }
  buffers : ∀ i, t.buffer i = if s.heldByPack id i = true then ⟨.free, none⟩ else s.buffer i
  counted : t.count .carriesWithoutTarget = saturatingNext (s.count .carriesWithoutTarget)
  mem : t.mem = s.mem

section
variable {s : State} {id : SlotId} {cause : AbortCause} (h : s.OffersAll id cause)
include h

theorem State.OffersAll.begun : State.AbortBegun id cause s (s.abortBegin id cause) := State.abortBegin_begun h.queue

theorem State.OffersAll.members_begun : ((s.abortBegin id cause).slot id).members = (s.slot id).members := by
  rw [h.begun.slot]

theorem State.OffersAll.offers {n : Member} (hn : n ∈ (s.slot id).members) :
    (cause.plansCarry && decide (n.state = .done) && (s.abortBegin id cause).qualifies id n) = true := by
  rw [State.qualifies_congr h.begun.buffers, h.qualify n hn, h.plans, decide_eq_true (h.done n hn)]
  rfl

theorem State.OffersAll.offered :
    (if cause.plansCarry = true then (s.abortBegin id cause).offeredMembers id else []) = (s.slot id).members := by
  rw [if_pos h.plans, State.offeredMembers, h.members_begun]
  refine List.filter_eq_self.2 fun n hn => ?_
  simpa only [h.plans, Bool.true_and] using h.offers hn

/-- What is released where the first n members are carried: the rest with FULL, or, with no target, all with the cause's reason (R189). -/
theorem State.OffersAll.releases (n : Nat) : abortReleases cause.reason
    (fun m => cause.plansCarry && decide (m.state = .done) && (s.abortBegin id cause).qualifies id m) true n
      ((s.abortBegin id cause).slot id).members = ((s.slot id).members.drop n).map fun m => ⟨m.file.pair, .full⟩ := by
  rw [h.members_begun]
  exact abortReleases_offered (fun m hm => ⟨by rw [h.done m hm]; rfl, h.offers hm⟩) n

theorem State.OffersAll.releases_untargeted : abortReleases cause.reason
    (fun m => cause.plansCarry && decide (m.state = .done) && (s.abortBegin id cause).qualifies id m) false 0
      ((s.abortBegin id cause).slot id).members = (s.slot id).members.map fun m => ⟨m.file.pair, .abort⟩ := by
  have hlive : ((s.slot id).members.filter fun m => !m.state.isVoid) = (s.slot id).members :=
    List.filter_eq_self.2 fun m hm => by rw [h.done m hm]; rfl
  have hreason : cause.reason = .abort := by
    have hplans := h.plans
    cases cause <;> trivial
  rw [abortReleases_untargeted, h.members_begun, hlive, hreason]

/-- With no target, or one whose tests the first member fails, no member is carried (R181 to R183). -/
theorem State.OffersAll.noneCarried {target : Option SlotId} {reason : ReleaseReason} (hne : (s.slot id).members ≠ [])
    (hroom : s.aru.releases.length + (s.slot id).members.length ≤ 8200) (htarget : (s.abortBegin id cause).carryTarget id = target)
    (hrefused : ∀ tgt, target = some tgt → ∃ m rest, (s.slot id).members = m :: rest ∧
      ((s.abortBegin id cause).freeUntouched id (s.slot id).members).admitsCarry tgt m = false)
    (hreason : reason = if target.isSome then .full else .abort) : State.NoneCarried id cause reason s (s.abortPack id cause) := by
  have hreleases : abortReleases cause.reason
      (fun m => cause.plansCarry && decide (m.state = .done) && (s.abortBegin id cause).qualifies id m) target.isSome 0
        ((s.abortBegin id cause).slot id).members = (s.slot id).members.map fun m => ⟨m.file.pair, reason⟩ := by
    rw [hreason]
    cases target with
    | none => exact h.releases_untargeted
    | some tgt => exact h.releases 0
  have htarget' : (if (s.slot id).members.isEmpty = true then none else (s.abortBegin id cause).carryTarget id) = target := by
    rw [if_neg (by simpa using hne)]
    exact htarget
  obtain ⟨v, hv, hcounted, ht⟩ := State.abortPack_givenBack h.abortable h.queue h.offered htarget' hrefused hreleases (by simpa using hroom)
  have hfinish : s.abortPack id cause =
      (v.queueRecord (s.completedRecord id cause 0 (s.slot id).members.length)).clearSlot id := by
    rw [ht, State.stopCarryInto_elsewhere (by rw [h.copies]; nofun), State.abortFinish_uncarried hv.slot, List.length_map]
    rfl
  rw [hfinish]
  exact {
    slot := State.setSlot_slot ..
    other := (State.setSlot_slot_other ..).trans hv.other
    aru := (State.setSlot_aru ..).trans hv.aru
    mgt := (State.setSlot_mgt ..).trans (by rw [State.queueRecord, State.withMgt_mgt, hv.mgt])
    buffers := fun i => (State.buffer_congr (State.setSlot_spl ..) i).trans (hv.buffers i)
    counted := (State.count_congr (State.setSlot_counters ..) _).trans (hcounted hne)
    mem := (State.setSlot_mem ..).trans hv.mem }

end

end Sys2Proof.Machine

/-! ## An abort that carries the first of its members and no other (R180 to R184, R189, R190) -/

namespace Sys2Proof.Machine

/-- A member carried into an OPEN pack after whose placement nothing follows (R105, R182, R183). -/
theorem State.carriesIn_stores {s : State} {src tgt : SlotId} {m : Member} (ho : (s.slot tgt).state = .opened)
    (hfoot : m.footprint = footprintOf m.file.size)
    (hmargin : s.through tgt m + s.mgt.config.closeMargin ≤ capacity (s.slot tgt).limit)
    (hlimit : (s.slot tgt).members.length + 1 < 4096)
    (hopen : Slot.segmentOpen { s.slot tgt with e := (s.slot tgt).e + m.footprint }) :
    ∃ (bufs : Vector Buffer 64) (n : Nat),
      s.carriesIn src tgt m = ((((s.setSlot tgt ((s.slot tgt).withCarried m)).withSpl
        { s.spl with buffers := bufs, promised := n }).wakeUp).withAru
        { s.aru with copies := s.aru.copies ++ [s.copyOf src tgt m] }).bump .membersCarried ∧
      ∀ i : Fin 64, (s.buffer i).state ≠ .free → bufs[i] = s.buffer i := by
  rw [hfoot] at hopen
  rw [State.through, hfoot] at hmargin
  obtain ⟨bufs, n, hplace, hkept⟩ := State.place_carried ho hmargin hlimit hopen
  refine ⟨bufs, n, ?_, hkept⟩
  unfold State.carriesIn
  rw [hplace]
  cases tgt <;> rfl

/-- The slot of a pack whose first members are carried out is CARRYING, its record held back, and the copy of data waits (R183, R184, R191). -/
theorem State.abortFinish_carried {s : State} {id : SlotId} {c : Copy} {rest : List Copy} (ha : (s.slot id).state = .aborted)
    (hcopies : s.aru.copies = c :: rest) (hc : c.footprint ≠ 1) (r : PackRecord) : s.abortFinish id 1 r =
      s.setSlot id { s.slot id with state := .carrying, members := [], manifest := none, record := some r } := by
  rw [State.abortFinish, if_pos ha, if_neg Nat.one_ne_zero]
  exact State.startCopies_of_data ((congrArg Aru.copies (State.setSlot_aru ..)).trans hcopies) hc

/-- What an abort leaves that carries the first of these members into the other slot's OPEN pack: its slot is CARRYING with its record held
back, the member is placed there, its copy queued and its buffers HELD; the members behind it are released with FULL (R182, R183, R189). -/
structure State.FirstCarried (id : SlotId) (cause : AbortCause) (m : Member) (rest : List Member) (s t : State) : Prop where
  slot : t.slot id = { s.slot id with
    state := .carrying, ageDeadline := none, commitPoint := none, members := [], manifest := none
    record := some (s.completedRecord id cause 1 rest.length) }
  other : t.slot id.other = (s.slot id.other).withCarried m
  aru : t.aru = { s.aru with
    copies := [s.copyOf id id.other m]
    releases := s.aru.releases ++ rest.map fun n => ⟨n.file.pair, .full⟩ }
  mgt : t.mgt = s.mgt
  buffers : ∀ i, s.heldByPack id i = true → s.bufferTouched i (m :: rest) = true →
    t.buffer i = if s.bufferTouched i [m] = true then ⟨.held, (s.buffer i).bound⟩ else ⟨.free, none⟩
  counts : ∀ k ∉ [Ctr.abandonsSent, .releasesQueued, .releaseOverflows],
    t.count k = if k = .membersCarried ∨ k = cause.counter then saturatingNext (s.count k) else s.count k
  lif : t.lif = s.lif
  oft : t.oft = s.oft
  mem : t.mem = s.mem

/-- A buffer that a pack holds is not FREE. -/
theorem State.heldByPack_used {s : State} {id : SlotId} {i : Fin 64} (h : s.heldByPack id i = true) : (s.buffer i).state ≠ .free := by
  intro hf
  unfold State.heldByPack at h
  split at h
  · simp [hf] at h
  · nomatch h

theorem State.through_congr {s t : State} {tgt : SlotId} (hslot : t.slot tgt = s.slot tgt) (hbound : t.boundClaims tgt = s.boundClaims tgt)
    (m : Member) : t.through tgt m = s.through tgt m := by
  rw [State.through, State.roomOf_congr hslot hbound, hslot, hbound, State.through]

/-- What the plan of an abort leaves that has carried the first of these members into the other slot's OPEN pack, ahead of its last pass over
the buffers (R182, R183). -/
structure State.PlannedFirst (id : SlotId) (cause : AbortCause) (m : Member) (rest : List Member) (s w : State) : Prop where
  slot : w.slot id = { s.slot id with state := .aborted, ageDeadline := none, commitPoint := none }
  other : w.slot id.other = (s.slot id.other).withCarried m
  bound : w.boundClaims id.other = s.boundClaims id.other
  aru : w.aru = { s.aru with copies := s.aru.copies ++ [s.copyOf id id.other m] }
  mgt : w.mgt = s.mgt
  buffers : ∀ i, s.heldByPack id i = true → s.bufferTouched i (m :: rest) = true → w.buffer i = s.buffer i
  counts : ∀ k ≠ .abandonsSent,
    w.count k = if k = .membersCarried ∨ k = cause.counter then saturatingNext (s.count k) else s.count k
  lif : w.lif = s.lif
  oft : w.oft = s.oft
  mem : w.mem = s.mem

section
variable {s b w : State} {id : SlotId} {cause : AbortCause} {m : Member} {rest : List Member}

/-- The placement of the first member, from what the first steps of the abort leave (R182, R183). -/
theorem State.AbortBegun.plannedFirst (h : State.AbortBegun id cause s b) (ho : (s.slot id.other).state = .opened)
    (hopen : Slot.segmentOpen { s.slot id.other with e := (s.slot id.other).e + m.footprint })
    (hfoot : m.footprint = footprintOf m.file.size) (hlimit : (s.slot id.other).members.length + 1 < 4096)
    (hmargin : s.through id.other m + s.mgt.config.closeMargin ≤ capacity (s.slot id.other).limit) :
    State.PlannedFirst id cause m rest s ((b.freeUntouched id (m :: rest)).carriesIn id id.other m) := by
  have hslot := h.slot_untouched (m :: rest)
  have hbuffer := b.freeUntouched_buffer id (m :: rest)
  obtain ⟨hpkb, hsel, hlif, hoft, haru, hmgt, hmem, hcounters⟩ := b.freeUntouched_frame id (m :: rest)
  generalize b.freeUntouched id (m :: rest) = u at *
  have hown : u.slot id = _ := (State.slot_of_pkb hpkb id).trans h.slot
  have hbound : u.boundClaims id.other = s.boundClaims id.other := (State.boundClaims_congr hsel _).trans h.bound
  have hcopy : u.copyOf id id.other m = s.copyOf id id.other m := by rw [State.copyOf, hslot, State.copyOf]
  obtain ⟨bufs, n, hcarries, hkept⟩ := State.carriesIn_stores (s := u) (src := id) (tgt := id.other) (m := m) (by rw [hslot]; exact ho) hfoot
    (by rw [State.through_congr hslot hbound, hslot, hmgt, h.mgt]; exact hmargin) (by rw [hslot]; exact hlimit) (by rw [hslot]; exact hopen)
  rw [hslot, hcopy] at hcarries
  rw [hcarries]
  exact {
    slot := by
      rw [← hown]
      cases id <;> rfl
    other := by simp
    bound := (State.boundClaims_congr (by simp) _).trans hbound
    aru := by simp [haru, h.aru]
    mgt := by simp [hmgt, h.mgt]
    buffers := fun i hheld htouched => by
      have hbheld := (State.heldByPack_congr (id := id) (h.buffers i)).trans hheld
      have hbtouched := (State.bufferTouched_congr (h.buffers i) (m :: rest)).trans htouched
      have hsame : u.buffer i = s.buffer i := by
        rw [hbuffer, hbheld, hbtouched, ← h.buffers]
        rfl
      exact (hkept i (by rw [hsame]; exact State.heldByPack_used hheld)).trans hsame
    counts := fun k hk => by
      have hcause : Ctr.membersCarried ≠ cause.counter := by cases cause <;> decide
      refine (State.count_congr (State.bump_counters_congr (s := b) (by simp [hcounters]) _) k).trans ?_
      rw [State.count_bump_eq, h.counts k hk]
      by_cases hm : k = .membersCarried <;> simp [hm, hcause]
    lif := by simp [hlif, h.lif]
    oft := by simp [hoft, h.oft]
    mem := by simp [hmem, h.mem] }

/-- With the first member placed, the next fails the room test that leaves no room for both (R8, R182). -/
theorem State.PlannedFirst.refuses (h : State.PlannedFirst id cause m rest s w) (ho : (s.slot id.other).state = .opened)
    (hfoot : m.footprint = footprintOf m.file.size) {n : Member}
    (hfull : capacity (s.slot id.other).limit < (s.slot id.other).e + (s.roomOf id.other).q + m.footprint + n.footprint +
      mc ((s.slot id.other).members.length + (s.boundClaims id.other).length + 2)) : w.admitsCarry id.other n = false := by
  have hused : (w.slot id.other).state ≠ .free := by
    rw [h.other]
    exact fun hf => nomatch ho.symm.trans hf
  refine Bool.eq_false_iff.2 fun hadmits => ?_
  obtain ⟨hfits, -⟩ := (State.admitsCarry_used hused).1 hadmits
  rw [State.roomOf, h.bound, h.other] at hfits
  simp only [Slot.withCarried, List.length_append, List.length_singleton, State.roomOf, hfoot] at hfits hfull
  have hlength : (s.slot id.other).members.length + 1 + (s.boundClaims id.other).length + 1 =
      (s.slot id.other).members.length + (s.boundClaims id.other).length + 2 := by omega
  rw [hlength] at hfits
  omega

/-- The last steps of an abort that has carried the first member (R183, R189, R191). -/
theorem State.PlannedFirst.finish (h : State.PlannedFirst id cause m rest s w) (hcopies : s.aru.copies = []) (hdata : m.footprint ≠ 1)
    (hroom : rest = [] ∨ s.aru.releases.length + rest.length ≤ 8200) : State.FirstCarried id cause m rest s
      (((w.holdOrFree id [m]).queueReleases (rest.map fun n => ⟨n.file.pair, .full⟩)).abortFinish id 1
        (s.completedRecord id cause 1 rest.length)) := by
  obtain ⟨⟨bufs, wake, honly⟩, hheld⟩ := w.holdOrFree_pass id [m]
  have hwaru : (w.holdOrFree id [m]).aru = w.aru := by rw [honly]; rfl
  obtain ⟨counters, hqueued⟩ := State.queueReleases_joined (s := w.holdOrFree id [m]) (rs := rest.map fun n => ⟨n.file.pair, .full⟩)
    (hroom.imp (fun h => by rw [h]; rfl) fun hroom => by rw [hwaru, h.aru, List.length_map]; exact hroom)
  have hcount (k : Ctr) (hr : k ≠ .releasesQueued) (ho : k ≠ .releaseOverflows) :=
    State.queueReleases_count hr ho (rest.map fun n => ⟨n.file.pair, .full⟩) (w.holdOrFree id [m])
  have hbuffer (i : Fin 64) : ((w.holdOrFree id [m]).queueReleases (rest.map fun n => ⟨n.file.pair, .full⟩)).buffer i =
      (w.holdOrFree id [m]).buffer i :=
    State.buffer_congr (by rw [hqueued, State.withCounters_spl, State.withAru_spl]) i
  have hwcount (k : Ctr) : (w.holdOrFree id [m]).count k = w.count k := State.count_congr (by rw [honly]; rfl) k
  generalize hv : (w.holdOrFree id [m]).queueReleases _ = v at *
  rw [honly] at hqueued
  have hvaru : v.aru = { s.aru with
      copies := [s.copyOf id id.other m], releases := s.aru.releases ++ rest.map fun n => ⟨n.file.pair, .full⟩ } := by
    rw [hqueued]
    simp [h.aru, hcopies]
  have hvslot : v.slot id = w.slot id := by rw [hqueued]; rfl
  rw [State.abortFinish_carried (c := s.copyOf id id.other m) (rest := []) (by rw [hvslot, h.slot]) (by rw [hvaru]) hdata]
  exact {
    slot := by rw [State.setSlot_slot, hvslot, h.slot]
    other := by rw [State.setSlot_slot_other, ← h.other, hqueued]; rfl
    aru := (State.setSlot_aru ..).trans hvaru
    mgt := by rw [State.setSlot_mgt, ← h.mgt, hqueued]; rfl
    buffers := fun i hi htouched => by
      have hw := h.buffers i hi htouched
      rw [State.buffer_congr (State.setSlot_spl ..), hbuffer, hheld, State.heldOrFree, State.heldByPack_congr hw, if_pos hi,
        State.bufferTouched_congr hw, hw]
    counts := fun k hk => by
      simp only [List.mem_cons, List.not_mem_nil, or_false, not_or] at hk
      obtain ⟨habandon, hreleased, hover⟩ := hk
      rw [State.count_congr (State.setSlot_counters ..), hcount k hreleased hover, hwcount, h.counts k habandon]
    lif := by rw [State.setSlot_lif, ← h.lif, hqueued]; rfl
    oft := by rw [State.setSlot_oft, ← h.oft, hqueued]; rfl
    mem := by rw [State.setSlot_mem, ← h.mem, hqueued]; rfl }

/-- The first member passes both tests, and there is no second or it fails the room test: the first is carried, the others are not. -/
theorem State.OffersAll.firstCarried (h : s.OffersAll id cause) (hmembers : (s.slot id).members = m :: rest)
    (hroom : rest = [] ∨ s.aru.releases.length + rest.length ≤ 8200) (ho : (s.slot id.other).state = .opened)
    (hopen : Slot.segmentOpen { s.slot id.other with e := (s.slot id.other).e + m.footprint }) (hsize : 0 < m.file.size)
    (hfoot : m.footprint = footprintOf m.file.size)
    (hlimit : (s.slot id.other).members.length + (s.boundClaims id.other).length + 1 < 4096)
    (hmargin : s.through id.other m + s.mgt.config.closeMargin ≤ capacity (s.slot id.other).limit)
    (hdemand : demand (s.slot id.other).taken (s.through id.other m) ≤ s.freeBeside id (m :: rest))
    (hstops : ∀ n tail, rest = n :: tail → capacity (s.slot id.other).limit < (s.slot id.other).e + (s.roomOf id.other).q + m.footprint +
      n.footprint + mc ((s.slot id.other).members.length + (s.boundClaims id.other).length + 2)) :
    State.FirstCarried id cause m rest s (s.abortPack id cause) := by
  have hused : (s.slot id.other).state ≠ .free := by rw [ho]; decide
  have hbegun := h.begun
  have hplanned := hbegun.plannedFirst (rest := rest) ho hopen hfoot (by omega) hmargin
  have hplan := State.abortPlan_first (by rw [hbegun.slot_untouched]; exact hused)
    ((hbegun.admits_used (m := m) (m :: rest) hused).2 ⟨by omega, by omega, hdemand⟩)
    fun n tail hrest => hplanned.refuses ho hfoot (hstops n tail hrest)
  have hoffered := h.offered
  have hreleases := h.releases 1
  rw [hmembers] at hoffered hreleases
  have htarget : (if (m :: rest).isEmpty = true then none else (s.abortBegin id cause).carryTarget id) = some id.other :=
    State.carryTarget_accepting (.inl (by rw [hbegun.other]; exact ho))
  have hdata : m.footprint ≠ 1 := by
    rw [hfoot, footprintOf]
    omega
  rw [State.abortPack_run h.abortable hoffered htarget hplan hreleases, State.stopCarryInto_elsewhere (by rw [h.copies]; nofun), List.length_map]
  exact hplanned.finish h.copies hdata hroom

end

end Sys2Proof.Machine

/-! ## The carry of one member, and the carries cut off (R178 to R183, R189, R190) -/

namespace Sys2Proof.Machine

theorem State.bufferTouched_cons (s : State) (i : Fin 64) (m : Member) (ms : List Member) :
    s.bufferTouched i (m :: ms) = (s.bufferTouched i [m] || s.bufferTouched i ms) := by
  unfold State.bufferTouched
  split <;> simp

/-- A member touches the buffer of each of its segments (R6). -/
theorem State.bufferTouched_one {s : State} {i : Fin 64} {id : SlotId} {k : Nat} {m : Member} (hb : (s.buffer i).bound = some (id, k))
    (hlo : seg m.headN ≤ k) (hhi : k ≤ seg (m.headN + m.footprint - 1)) : s.bufferTouched i [m] = true := by
  simp [State.bufferTouched, hb, touches, hlo, hhi]

/-- The slot after a carried member has been placed holds it COPYING at E (R105, R106, R182). -/
theorem Slot.withCarried_eq {x : Slot} {m : Member} (hfoot : m.footprint = footprintOf m.file.size) :
    (x.withCarried m).state = x.state ∧ (x.withCarried m).e = x.e + m.footprint ∧ (x.withCarried m).members = x.members ++ [
      { file := m.file, key := m.key, headN := x.e, footprint := m.footprint, state := .copying, carried := true, released := false,
        dataPresent := false }] := by
  rw [hfoot]
  exact ⟨rfl, rfl, rfl⟩

end Sys2Proof.Machine

namespace Sys2Proof

section
open Machine

/-- Settles O45: the one member passes the tests of the carry, with none behind it. -/
theorem abortCarries : Obligations.AbortCarries := by
  intro id cause m key open_ s y x hplans hstate hkey hopen_ hmembers hdone hsize hfoot hheld ho hseg hopen hqueue hcopies hlimit room hmargin
    hdemand t
  have hoffers : s.OffersAll id cause := {
    plans := hplans
    abortable := by rcases hstate with h | h <;> exact (congrArg SlotState.abortable h).trans rfl
    done := fun n hn => by rw [hmembers, List.mem_singleton] at hn; rw [hn, hdone]
    qualify := fun n hn => by
      rw [hmembers, List.mem_singleton] at hn
      rw [hn]
      exact State.qualifies_of_held hheld
    copies := hcopies
    queue := fun q hq => by rw [hqueue] at hq; nomatch hq }
  have hcarried : State.FirstCarried id cause m [] s t := hoffers.firstCarried hmembers (.inl rfl) ho hopen hsize hfoot hlimit hmargin
    (hdemand.trans (s.bufferCount_le_freeBeside id [m])) nofun
  obtain ⟨hstate', he, hplaced⟩ := Slot.withCarried_eq (x := x) hfoot
  have hrecord := State.completedRecord_done cause hkey hopen_ hoffers.done 1 0
  refine ⟨hcarried.slot.trans ?_, ?_, ?_, ?_, congrArg Aru.copies hcarried.aru, ?_, hcarried.mgt, fun i k hb hi hlo hhi => ?_, ?_, ?_,
    hcarried.lif, hcarried.oft, hcarried.mem⟩
  · have hreleased : [m].countP Member.released + 0 = if m.released = true then 1 else 0 := List.countP_singleton
    rw [List.length_nil, hrecord, hmembers, hreleased]
    rfl
  · rw [hcarried.other, hstate', ho]
  · rw [hcarried.other, he]
  · rw [hcarried.other, hplaced]
  · rw [hcarried.aru]
    exact List.append_nil _
  · have htouched := State.bufferTouched_one hb hlo hhi
    rw [hcarried.buffers i hi htouched, if_pos htouched, hb]
  · exact (hcarried.counts _ (by decide)).trans (if_pos (.inl rfl))
  · exact (hcarried.counts _ (by cases cause <;> decide)).trans (if_pos (.inr rfl))

/-- Settles O46: the first member has no target or fails a test against it, or passes both and the second fails the room test. -/
theorem carryCutOff : Obligations.CarryCutOff := by
  intro id cause m rest key open_ s y x hplans ha hkey hopen_ hmembers hall hcopies hqueue hroom t touchedBy record noneCarried bound q free
  have hoffers : s.OffersAll id cause := {
    plans := hplans
    abortable := ha
    done := fun n hn => (hall n hn).1
    qualify := fun n hn => State.qualifies_of_held (hall n hn).2
    copies := hcopies
    queue := hqueue }
  have hbegun := hoffers.begun
  have hown : ((s.abortBegin id cause).slot id).state = .aborted := by rw [hbegun.slot]
  have hrecord (carried released : Nat) : s.completedRecord id cause carried released = record carried released :=
    State.completedRecord_done cause hkey hopen_ hoffers.done carried released
  have hfree : free = s.freeBeside id (s.slot id).members := rfl
  have hnone {reason : ReleaseReason} (h : State.NoneCarried id cause reason s t) : noneCarried reason :=
    ⟨h.slot, h.other, h.aru, h.mgt.trans (by rw [hrecord]), h.buffers, h.counted, h.mem⟩
  have hne : (s.slot id).members ≠ [] := by
    rw [hmembers]
    exact List.cons_ne_nil m rest
  have hfull (htarget : (s.abortBegin id cause).carryTarget id = some id.other)
      (hfails : ((s.abortBegin id cause).freeUntouched id (s.slot id).members).admitsCarry id.other m = false) : noneCarried .full :=
    hnone (hoffers.noneCarried hne hroom htarget
      (fun tgt htgt => ⟨m, rest, hmembers, by cases htgt; exact hfails⟩) rfl)
  refine ⟨fun hx => ?_, fun hx => ?_, fun hx hseq hrecords hfails => ?_, ?_⟩
  · refine hnone (hoffers.noneCarried hne hroom (State.carryTarget_none hown ?_) nofun rfl)
    rw [hbegun.other, hbegun.nextSeq, hbegun.mgt]
    exact hx
  · intro through hfails
    have hused : (s.slot id.other).state ≠ .free := by
      rcases hx with h | h <;> exact fun hf => nomatch h.symm.trans hf
    refine hfull (State.carryTarget_accepting (by rw [hbegun.other]; exact hx)) (Bool.eq_false_iff.2 fun hadmits => ?_)
    obtain ⟨hfits, hlimit, hbuffers⟩ := (hbegun.admits_used _ hused).1 hadmits
    rw [← hfree] at hbuffers
    rcases hfails with h | h | h
    · exact Nat.not_le_of_lt h hfits
    · exact Nat.not_le_of_lt h hlimit
    · exact Nat.not_le_of_lt h hbuffers
  · refine hfull (State.carryTarget_forms hown ?_ ?_ ?_) (Bool.eq_false_iff.2 fun hadmits => ?_)
    · rw [hbegun.other]
      exact hx
    · rw [hbegun.nextSeq]
      exact hseq
    · rw [hbegun.mgt]
      exact hrecords
    · obtain ⟨hfits, hbuffers⟩ := (hbegun.admits_free _ hx).1 hadmits
      exact hfails.elim (fun h => Nat.not_le_of_lt h hfits) fun h => Nat.not_le_of_lt h hbuffers
  · rintro m' rfl ho - hopen - hsize hfoot hlimit through hmargin hdemand hfull'
    have hlength : s.aru.releases.length + [m'].length ≤ 8200 := by
      rw [hmembers, List.length_cons] at hroom
      omega
    have hcarried : State.FirstCarried id cause m [m'] s t := hoffers.firstCarried hmembers (.inr hlength) ho hopen hsize hfoot hlimit hmargin
      (by rw [← hmembers]; exact hdemand) fun n tail hrest => by
        obtain ⟨rfl, -⟩ := List.cons.inj hrest
        exact hfull'
    obtain ⟨hstate', he, hplaced⟩ := Slot.withCarried_eq (x := s.slot id.other) hfoot
    refine ⟨hcarried.slot.trans ?_, ?_, ?_, ?_, hcarried.aru, hcarried.mgt, fun i k hb hi => ⟨fun htouched => ?_, fun hm hm' => ?_⟩, ?_, ?_,
      hcarried.mem⟩
    · rw [List.length_singleton, hrecord]
    · rw [hcarried.other, hstate', ho]
    · rw [hcarried.other, he]
    · rw [hcarried.other, hplaced]
    · have htouched : s.bufferTouched i [m] = true := htouched
      rw [hcarried.buffers i hi (by rw [s.bufferTouched_cons, htouched, Bool.true_or]), if_pos htouched, hb]
    · have hm : s.bufferTouched i [m] = false := hm
      have hm' : s.bufferTouched i [m'] = true := hm'
      rw [hcarried.buffers i hi (by rw [s.bufferTouched_cons, hm', Bool.or_true]), hm, if_neg Bool.false_ne_true]
    · exact (hcarried.counts _ (by decide)).trans (if_pos (.inl rfl))
    · exact (hcarried.counts _ (by decide)).trans (if_neg (by cases cause <;> decide))

end

end Sys2Proof

/-! ## The exchange of the management port (R195, R204, R207) -/

namespace Sys2Proof.Machine

/-- The counts an answer raises: its category, and the replaced response where that was unread (R207). -/
theorem State.count_answer (s : State) (st : Status) (data : List Byte) :
    (s.answer st data).count st.counter = saturatingNext (s.count st.counter) ∧
    (s.answer st data).count .responsesReplacedUnread =
      if s.responseUnread then saturatingNext (s.count .responsesReplacedUnread) else s.count .responsesReplacedUnread := by
  have hne : Status.counter st ≠ .responsesReplacedUnread := by cases st <;> decide
  unfold State.answer
  rw [State.count_bump, State.count_bump_other _ hne]
  cases s.responseUnread
  · exact ⟨rfl, rfl⟩
  · exact ⟨congrArg saturatingNext (s.count_bump_other hne.symm), s.count_bump _⟩

theorem State.responseUnread_some {s : State} {r : Response} (h : s.mgt.response = some r) : s.responseUnread = !r.read := by
  unfold State.responseUnread
  rw [h]

theorem State.responseUnread_none {s : State} (h : s.mgt.response = none) : s.responseUnread = false := by
  unfold State.responseUnread
  rw [h]

theorem readOut_length (n : Nat) (bs : List Byte) : (readOut n bs).length = n := by
  simp only [readOut, padTo, List.length_take, List.length_append, List.length_replicate]
  omega

/-- A read returns the response's bytes and then zeros (R195). -/
theorem readOut_getElem? {n i : Nat} (bs : List Byte) (hi : i < n) : (readOut n bs)[i]? = some (bs.getD i 0) := by
  rw [readOut, List.getElem?_take_of_lt hi]
  by_cases h : i < bs.length
  · rw [padTo, List.getElem?_append_left h, List.getD_eq_getElem _ _ h, List.getElem?_eq_getElem h]
  · rw [padTo_getElem? (Nat.le_of_not_lt h) hi, List.getD_eq_default _ _ (Nat.le_of_not_lt h)]

/-- The bytes a read finds: the held response, or BUSY with length 0 with none held (R195). -/
def State.heldBytes (s : State) : List Byte :=
  match s.mgt.response with
  | some r => responseBytes r.status r.data
  | none => responseBytes .busy []

theorem exec_responseRead (s : State) (n : Nat) : exec (.responseRead n) s = .next
    { s.begin with
      mgt := { s.mgt with response := s.mgt.response.map fun r => { r with read := true }, restarting := false }
      emitted := [.readBytes (readOut n s.heldBytes)] } := rfl

/-- Settles O47: an answer raises two counters at most, and a read takes its bytes from the response padded with zeros. -/
theorem exchange : Obligations.Exchange := by
  refine fun s => ⟨fun st data => ?_, fun n => ?_⟩
  · intro t category
    obtain ⟨counters, hanswer, hother⟩ := s.answer_eq st data
    obtain ⟨hcategory, hreplaced⟩ := s.count_answer st data
    have hct : category = st.counter := by cases st <;> rfl
    rw [← hct] at hcategory hother
    refine ⟨congrArg State.mgt hanswer, hcategory, fun r hr hunread => ?_, fun h => ?_, fun k h1 h2 => hother k h2 h1, ?_⟩
    · rw [hreplaced, State.responseUnread_some hr, hunread]
      rfl
    · have hread : s.responseUnread = false := by
        rcases h with h | ⟨r, hr, hread⟩
        · exact State.responseUnread_none h
        · rw [State.responseUnread_some hr, hread]
          rfl
      rw [hreplaced, hread]
      rfl
    · simp only [t, hanswer]
      exact ⟨rfl, rfl, rfl, rfl, rfl, rfl, rfl, rfl, rfl, rfl⟩
  · intro bytes
    have hbytes : s.heldBytes = bytes := by
      simp only [State.heldBytes, bytes]
      cases s.mgt.response <;> rfl
    exact ⟨_, readOut_length n bytes, fun _ => readOut_getElem? bytes, by rw [exec_responseRead, hbytes]⟩

end Sys2Proof.Machine

/-! ## The judging of the port's writes (R195, R196, R203) -/

namespace Sys2Proof.Machine

theorem State.isBusy_iff (s : State) : s.isBusy = true ↔ s.mgt.run = .selftest ∨ s.mgt.restarting = true := by
  simp [State.isBusy]

theorem State.isBusy_eq_false {s : State} (hself : s.mgt.run ≠ .selftest) (hr : s.mgt.restarting = false) : s.isBusy = false := by
  simp [State.isBusy, hself, hr]

section
variable {s : State} {short outOfRange : Bool} {allowed : RunState → Bool} {act : State → State}

theorem State.command_busy (h : s.isBusy = true) : s.command short outOfRange allowed act = s.answer .busy [] := if_pos h

theorem State.command_short (h : s.isBusy = false) (hs : short = true) :
    s.command short outOfRange allowed act = s.answer .short [] := by
  simp [State.command, h, hs]

theorem State.command_unknown (h : s.isBusy = false) (hs : short = false) (ho : outOfRange = true) :
    s.command short outOfRange allowed act = s.answer .unknown [] := by
  simp [State.command, h, hs, ho]

theorem State.command_wrongState (h : s.isBusy = false) (hs : short = false) (ho : outOfRange = false)
    (ha : allowed s.mgt.run = false) : s.command short outOfRange allowed act = s.answer .wrongState [] := by
  simp [State.command, h, hs, ho, ha]

end

section
variable {s : State}

/-- RUN-MODE with a mode byte is judged as the short form of its mode (R203). -/
theorem State.takeRunMode_cons (h : s.isBusy = false) (mode : Byte) (params : List Byte) : s.takeRunMode (mode :: params) =
    if mode.toNat = 1 then s.takeCloseNow else if mode.toNat = 2 then s.takeQuiesce else if mode.toNat = 3 then s.takeResume
    else s.answer .unknown [] := by
  simp [State.takeRunMode, h, fieldAt_cons_zero]

/-- A run-mode command is the same in either form where RUN-MODE judges its mode byte as the short form (R203). -/
theorem State.takeMode_eq {form : ModeForm} {mode : Byte} {params : List Byte} {short : State → State}
    (h : s.takeRunMode (mode :: params) = short s) : s.takeMode form mode params short = short s := by
  cases form with
  | short => rfl
  | runMode => exact h

theorem State.takeMode_busy (h : s.isBusy = true) {form : ModeForm} {mode : Byte} {params : List Byte} {short : State → State}
    (hs : short s = s.answer .busy []) : s.takeMode form mode params short = s.answer .busy [] :=
  (State.takeMode_eq ((if_pos h).trans hs.symm)).trans hs

theorem State.takeWrite_busy (h : s.isBusy = true) {code : Byte} (hc : code ≠ 0x02#8) (params : List Byte) :
    s.takeWrite (code :: params) = s.answer .busy [] := by
  simp [State.takeWrite, hc, h]

theorem State.takeWrite_runMode (h : s.isBusy = false) (params : List Byte) : s.takeWrite (0x20#8 :: params) = s.takeRunMode params := by
  simp [State.takeWrite, h]

/-- A code that no row of R196 has. -/
theorem State.takeWrite_unknown (h : s.isBusy = false) {code : Byte} (hc : code.toNat ∉ commandCodes) (params : List Byte) :
    s.takeWrite (code :: params) = s.answer .unknown [] := by
  simp only [commandCodes, List.mem_cons, List.not_mem_nil, or_false, not_or] at hc
  simp [State.takeWrite, h, BitVec.toNat_eq, hc]

theorem State.takeStart_wrongState (h : s.isBusy = false) (hs : s.mgt.run ≠ .config ∨ s.inService < 24) :
    s.takeStart = s.answer .wrongState [] := by
  by_cases hrun : s.mgt.run = .config
  · have hfew := hs.resolve_left (not_not_intro hrun)
    simp [State.takeStart, State.command, h, hrun, hfew]
  · exact State.command_wrongState h rfl rfl (decide_eq_false hrun)

theorem State.takeRecord_empty (h : s.isBusy = false) (hr : s.mgt.records = []) : s.takeRecord = s.answer .empty [] := by
  simp [State.takeRecord, State.command, anyState, h, hr]

end

/-- Settles O48, by whether the part is busy; if not, each row of R196 is a test of the command's own. -/
theorem writesJudged : Obligations.WritesJudged := by
  intro s params form code mode bank known answered
  refine ⟨fun h => ?_, fun hself hr => ?_, rfl⟩
  · have hbusy : s.begin.isBusy = true := s.begin.isBusy_iff.2 h
    have hnext {t : State} (ht : t = s.begin.answer .busy []) : Host.Outcome.next t = answered .busy := congrArg _ ht
    exact ⟨hnext (State.command_busy hbusy), hnext (State.command_busy hbusy), hnext (State.command_busy hbusy),
      hnext (State.command_busy hbusy), hnext (State.takeMode_busy hbusy (State.command_busy hbusy)),
      hnext (State.takeMode_busy hbusy (State.command_busy hbusy)), hnext (State.takeMode_busy hbusy (State.command_busy hbusy)),
      hnext (State.command_busy hbusy), hnext (State.command_busy hbusy),
      fun hc => hnext (State.takeWrite_busy hbusy hc params)⟩
  · have hfree : s.begin.isBusy = false := State.isBusy_eq_false hself hr
    have hnext {t : State} {st : Status} (ht : t = s.begin.answer st []) : Host.Outcome.next t = answered st := congrArg _ ht
    have hcodes : commandCodes = known.map BitVec.toNat := rfl
    refine ⟨fun hc => hnext (State.takeWrite_unknown hfree ?_ params), fun hm => hnext ?_, hnext ?_, hnext ?_, fun hb => hnext ?_,
      fun hlen => hnext ?_, fun hlen hrun => hnext ?_, fun hs => hnext (State.takeStart_wrongState hfree hs), fun hrun => ⟨hnext ?_, hnext ?_⟩,
      fun hq hq' => hnext ?_, fun hrecords => hnext (State.takeRecord_empty hfree hrecords)⟩
    · rwa [hcodes, List.mem_map_of_injective fun _ _ => BitVec.eq_of_toNat_eq]
    · rw [State.takeWrite_runMode hfree, State.takeRunMode_cons hfree, if_neg (by omega), if_neg (by omega), if_neg (by omega)]
    · rw [State.takeWrite_runMode hfree]
      simp [State.takeRunMode, hfree]
    · exact State.command_short hfree rfl
    · exact State.command_unknown hfree rfl (decide_eq_true (by rwa [fieldAt_cons_zero]))
    · exact State.command_short hfree (decide_eq_true hlen)
    · exact State.command_wrongState hfree (decide_eq_false (Nat.not_lt_of_le hlen)) rfl (decide_eq_false hrun)
    · rw [State.takeMode_eq (s.begin.takeRunMode_cons hfree 1 params)]
      exact State.command_wrongState hfree rfl rfl (decide_eq_false hrun)
    · rw [State.takeMode_eq (s.begin.takeRunMode_cons hfree 2 params)]
      exact State.command_wrongState hfree rfl rfl (decide_eq_false hrun)
    · rw [State.takeMode_eq (s.begin.takeRunMode_cons hfree 3 params)]
      exact State.command_wrongState hfree rfl rfl (by simp [hq, hq'])

end Sys2Proof.Machine

/-! ## The pages and the counter banks (R197, R198) -/

namespace Sys2Proof.Machine

theorem State.bufferCount_le (s : State) (st : BufferState) : s.bufferCount st ≤ 64 :=
  List.countP_le_length.trans_eq (Vector.length_toList ..)

/-- The identity page, field by field: each value fits the width of its field (R197). -/
theorem State.identityPage_fields (s : State) :
    s.identityPage.length = 28 ∧
    s.identityPage.take 8 = [0x4C#8, 0x65#8, 0x72#8, 0x77#8, 0x61#8, 0x6C#8, 0x64#8, 0x00#8] ∧
    (s.identityPage.drop 8).take 5 = [0x50#8, 0x4B#8, 0x34#8, 0x30#8, 0x38#8] ∧ fieldAt s.identityPage 13 1 = 0x43 ∧
    fieldAt s.identityPage 14 1 = 1 ∧ fieldAt s.identityPage 15 1 = s.lif.station.val ∧ fieldAt s.identityPage 16 1 = 64 ∧
    fieldAt s.identityPage 17 1 = s.inService ∧ fieldAt s.identityPage 18 2 = 1024 ∧ fieldAt s.identityPage 20 1 = 8 ∧
    fieldAt s.identityPage 21 1 = 4 ∧ fieldAt s.identityPage 22 2 = 4096 ∧ fieldAt s.identityPage 24 1 = 2 ∧
    fieldAt s.identityPage 25 1 = 32 ∧ fieldAt s.identityPage 26 2 = 8200 := by
  have hstation := s.lif.station.isLt
  have hservice : s.inService ≤ 64 := Nat.sub_le ..
  refine ⟨by simp [State.identityPage], rfl, rfl, ?_⟩
  unfold State.identityPage
  simp (disch := simp) only [fieldAt_left, fieldAt_skip]
  simp [fieldAt_alone, fieldAt_cons_zero]
  omega

theorem RunState.code_toNat (x : RunState) : x.code.toNat = match x with
    | .selftest => 0 | .config => 1 | .run => 2 | .quiescing => 3 | .quiet => 4 | .halted => 5 := by
  cases x <;> rfl

/-- The code of a slot state; ABORTED is never reported (R197). -/
theorem SlotState.code_toNat (x : SlotState) : x ≠ .aborted → x.code.toNat = match x with
    | .free => 0 | .forming => 1 | .opened => 2 | .closing => 3 | .closed => 4 | .ending => 5 | .carrying => 6 | .aborted => 7 := by
  cases x with
  | aborted => exact fun h => absurd rfl h
  | _ => exact fun _ => rfl

theorem PortState.code_toNat (x : PortState) : x.code.toNat = match x with | .down => 0 | .up => 1 := by
  cases x <;> rfl

/-- The status page, field by field, each number reduced to the width of its field. -/
theorem State.statusPage_fields (s : State) :
    s.statusPage.length = 30 ∧ fieldAt s.statusPage 0 1 = s.mgt.run.code.toNat ∧
    fieldAt s.statusPage 1 1 = (s.slot .a).state.code.toNat ∧ fieldAt s.statusPage 2 1 = (s.slot .b).state.code.toNat ∧
    fieldAt s.statusPage 3 4 = (s.slot .a).e % 2 ^ 32 ∧ fieldAt s.statusPage 7 2 = (s.slot .a).members.length % 2 ^ 16 ∧
    fieldAt s.statusPage 9 4 = (s.slot .b).e % 2 ^ 32 ∧ fieldAt s.statusPage 13 2 = (s.slot .b).members.length % 2 ^ 16 ∧
    fieldAt s.statusPage 15 1 = s.bufferCount .free ∧ fieldAt s.statusPage 16 1 = s.bufferCount .filling ∧
    fieldAt s.statusPage 17 1 = s.bufferCount .ready ∧ fieldAt s.statusPage 18 1 = s.bufferCount .draining ∧
    fieldAt s.statusPage 19 1 = s.bufferCount .held ∧ fieldAt s.statusPage 20 1 = s.bufferCount .retired ∧
    fieldAt s.statusPage 21 1 = s.spl.promised % 2 ^ 8 ∧ fieldAt s.statusPage 22 1 = s.drn.port.code.toNat ∧
    fieldAt s.statusPage 23 1 = s.drn.window.length % 2 ^ 8 ∧ fieldAt s.statusPage 24 2 = s.oft.candidates.length % 2 ^ 16 ∧
    fieldAt s.statusPage 26 1 = s.sel.claims.length % 2 ^ 8 ∧ fieldAt s.statusPage 27 2 = s.aru.releases.length % 2 ^ 16 ∧
    fieldAt s.statusPage 29 1 = s.mgt.records.length % 2 ^ 8 := by
  have hcount (st : BufferState) : s.bufferCount st % 256 = s.bufferCount st :=
    Nat.mod_eq_of_lt ((s.bufferCount_le st).trans_lt (by decide))
  refine ⟨by simp [State.statusPage], ?_⟩
  unfold State.statusPage
  simp (disch := simp) only [fieldAt_left, fieldAt_skip]
  simp [fieldAt_alone, fieldAt_cons_zero, fieldAt_cons_succ, hcount, State.slot]

/-- The counters in the order in which they are held. -/
def Ctr.all : List Ctr := (List.range 84).map Ctr.ofNat

theorem Ctr.ofNat_index : ∀ i : Fin 84, (Ctr.ofNat i.val).index = i := by decide

theorem State.counters_toList (s : State) : s.counters.toList = Ctr.all.map s.count := by
  refine List.ext_getElem (by simp [Ctr.all]) fun i hi _ => ?_
  have hi' : i < 84 := by simpa using hi
  have hindex : (Ctr.ofNat i).index = ⟨i, hi'⟩ := Ctr.ofNat_index ⟨i, hi'⟩
  simp [Ctr.all, State.count, hindex]

/-- The names of a bank's counters (R198). -/
def bankNames (bank : Nat) : List Ctr := (Ctr.all.drop (bankSpan bank).1).take (bankSpan bank).2

theorem State.bankBytes_eq (s : State) (bank : Nat) :
    s.bankBytes bank = (bankNames bank).flatMap fun c => le 4 (s.count c).toNat := by
  rw [State.bankBytes, s.counters_toList, ← List.map_drop, ← List.map_take, List.flatMap_map, bankNames]

theorem exec_identify {s : State} (params : List Byte) (hself : s.mgt.run ≠ .selftest) (hr : s.mgt.restarting = false) :
    exec (.identify params) s = .next (s.begin.answer .done s.begin.identityPage) :=
  congrArg Host.Outcome.next (State.command_acts (s := s.begin) hself hr rfl _)

theorem exec_counters {s : State} {bank : Byte} (params : List Byte) (hself : s.mgt.run ≠ .selftest) (hr : s.mgt.restarting = false)
    (hb : bank.toNat ≤ 9) : exec (.counters (bank :: params)) s = .next (s.begin.answer .done (s.begin.bankBytes bank.toNat)) := by
  have hfield : fieldAt (bank :: params) 0 1 = bank.toNat := fieldAt_cons_zero ..
  have hin : decide (9 < bank.toNat) = false := decide_eq_false (Nat.not_lt_of_le hb)
  refine congrArg Host.Outcome.next ?_
  rw [State.takeCounters, hfield, hin]
  exact State.command_acts (s := s.begin) hself hr rfl _

theorem eq_of_eq_mod {x n k w : Nat} (hx : x = n % w) (hn : n ≤ k) (hk : k < w) : x = n :=
  hx.trans (Nat.mod_eq_of_lt (hn.trans_lt hk))

/-- Settles O49: each page is cut at its fields, and each bank is a run of the counters in their order. -/
theorem pagesAnswered : Obligations.PagesAnswered := by
  intro s params
  refine ⟨fun hself hr => ⟨_, exec_identify params hself hr, s.begin.identityPage_fields⟩, ?_, ?_⟩
  · obtain ⟨hlen, hrun, ha, hb, hea, hma, heb, hmb, hfree, hfilling, hready, hdraining, hheld, hretired, hpromised, hport, hwindow,
      hcandidates, hclaims, hreleases, hrecords⟩ := s.begin.statusPage_fields
    refine ⟨_, rfl, hlen, hrun.trans (RunState.code_toNat _), fun id hid => ?_, fun h => hea.trans (Nat.mod_eq_of_lt h),
      fun h => eq_of_eq_mod hma h (by decide), fun h => heb.trans (Nat.mod_eq_of_lt h),
      fun h => eq_of_eq_mod hmb h (by decide), hfree, hfilling, hready, hdraining, hheld, hretired,
      fun h => eq_of_eq_mod hpromised h (by decide), hport.trans (PortState.code_toNat _),
      fun h => eq_of_eq_mod hwindow h (by decide),
      fun h => eq_of_eq_mod hcandidates h (by decide),
      fun h => eq_of_eq_mod hclaims h (by decide),
      fun h => eq_of_eq_mod hreleases h (by decide),
      fun h => eq_of_eq_mod hrecords h (by decide)⟩
    cases id with
    | a => exact ha.trans (SlotState.code_toNat _ hid)
    | b => exact hb.trans (SlotState.code_toNat _ hid)
  · intro banks bank names hself hr hbank
    have hbanks : banks = (List.range 10).map bankNames := rfl
    obtain ⟨hlt, hnames⟩ := List.getElem?_eq_some_iff.1 (hbanks ▸ hbank)
    rw [List.length_map, List.length_range] at hlt
    rw [List.getElem_map, List.getElem_range] at hnames
    have hbyte : (BitVec.ofNat 8 bank).toNat = bank := Nat.mod_eq_of_lt (by omega)
    rw [exec_counters params hself hr (by omega), hbyte, State.bankBytes_eq, hnames]
    rfl

end Sys2Proof.Machine

/-! ## CONFIGURE (R199, R200) -/

namespace Sys2Proof.Machine

theorem onesRun_getLsbD (lo len i : Nat) : (onesRun lo len).getLsbD i = decide (i < 64 ∧ lo ≤ i ∧ i < lo + len) := by
  rw [onesRun, BitVec.getLsbD_ofNat, Nat.testBit_mul_two_pow, Nat.testBit_two_pow_sub_one]
  rw [Bool.eq_iff_iff]
  simp only [Bool.and_eq_true, decide_eq_true_eq]
  omega

/-- A mask is valid where its one bits are a run of consecutive positions (R200). -/
theorem maskValid_iff (m : Word64) :
    maskValid m = true ↔ ∃ lo n, lo + n < 64 ∧ ∀ i, i < 64 → (m.getLsbD i = true ↔ lo ≤ i ∧ i ≤ lo + n) := by
  simp only [maskValid, List.any_eq_true, List.mem_range, decide_eq_true_eq]
  constructor
  · rintro ⟨lo, hlo, n, hn, rfl⟩
    refine ⟨lo, n, by omega, fun i hi => ?_⟩
    rw [onesRun_getLsbD, decide_eq_true_iff]
    omega
  · rintro ⟨lo, n, hn, hbits⟩
    refine ⟨lo, by omega, n, by omega, BitVec.eq_of_getLsbD_eq fun i hi => Bool.eq_iff_iff.2 ?_⟩
    rw [hbits i hi, onesRun_getLsbD, decide_eq_true_iff]
    omega

theorem clamp_eq_ite {lo hi : Nat} (h : lo ≤ hi) (n : Nat) : clamp lo hi n = if n < lo then lo else if hi < n then hi else n := by
  unfold clamp
  split
  · omega
  · split <;> omega

theorem State.configured_eq (s : State) (c : ConfigRecord) : s.configured c = { s with
    mgt := { s.mgt with config := c }
    pkb := if c.epoch = s.mgt.config.epoch then s.pkb else { s.pkb with nextSeq := 0 } } := by
  unfold State.configured
  split <;> rfl

theorem exec_configure {s : State} {b : List Byte} (hrun : s.mgt.run = .config) (hr : s.mgt.restarting = false) (hlen : 43 ≤ b.length) :
    exec (.configure b) s = .next (if maskValid (readConfig b).keyMask then
      (s.begin.configured (readConfig b)).answer .done (configBytes (readConfig b)) else s.begin.answer .badMask []) := by
  have hlong : decide (b.length < 43) = false := decide_eq_false (Nat.not_lt_of_le hlen)
  refine congrArg Host.Outcome.next ?_
  rw [State.takeConfigure, hlong]
  exact State.command_acts (s := s.begin) (by simp [hrun]) hr (by simp [hrun]) _

/-- Settles O50: a valid mask is a run of ones, and the record read is the one with each field set within its range. -/
theorem configure : Obligations.Configure := by
  intro b s hrun hr hlen within c run
  have hread : readConfig b = c := by
    have hpurge : decide (1 ≤ fieldAt b 42 1) = decide (fieldAt b 42 1 ≠ 0) := decide_eq_decide.2 Nat.one_le_iff_ne_zero
    unfold readConfig
    rw [hpurge]
    simp only [clamp_eq_ite (show 0 ≤ _ from Nat.zero_le _), clamp_eq_ite, Nat.reduceLeDiff, c, within, ticketAt]
  have hvalid : maskValid c.keyMask = true ↔ run := maskValid_iff _
  rw [exec_configure hrun hr hlen, hread]
  refine ⟨fun h => ?_, fun h => ?_⟩
  · rw [if_pos (hvalid.2 h), State.configured_eq]
    rfl
  · rw [if_neg (mt hvalid.1 h)]

end Sys2Proof.Machine

/-! ## TAKE_RECORD and the attention output (R205, R206) -/

namespace Sys2Proof.Machine

theorem State.attention_iff (s : State) :
    s.attention = true ↔ s.mgt.records ≠ [] ∨ s.mgt.run = .halted ∨ s.mgt.attentionHeld = true := by
  simp [State.attention, or_assoc]

theorem PackOutcome.code_toNat (x : PackOutcome) : x.code.toNat = if x = .ended then 1 else 2 := by
  cases x <;> rfl

theorem PackOutcome.causeCode_toNat (x : PackOutcome) : x.causeCode.toNat = match x with
    | .ended => 0
    | .aborted .media => 1
    | .aborted .offline => 2
    | .aborted .timeout => 3
    | .aborted .damage => 4
    | .aborted .restart => 5
    | .aborted .halt => 6 := by
  cases x with
  | ended => rfl
  | aborted cause => cases cause <;> rfl

/-- A pack record's bytes, field by field, the counts reduced to the width of their fields (R205). -/
theorem PackRecord.bytes_fields (r : PackRecord) :
    r.bytes.length = 47 ∧ fieldAt r.bytes 0 1 = r.station.val ∧ fieldAt r.bytes 1 4 = r.epoch.toNat ∧
    fieldAt r.bytes 5 4 = r.seq.toNat ∧ fieldAt r.bytes 9 1 = r.outcome.code.toNat ∧
    fieldAt r.bytes 10 1 = r.outcome.causeCode.toNat ∧ fieldAt r.bytes 11 4 = r.segments % 2 ^ 32 ∧
    fieldAt r.bytes 15 2 = r.members % 2 ^ 16 ∧ fieldAt r.bytes 17 2 = r.voids % 2 ^ 16 ∧
    fieldAt r.bytes 19 2 = r.carriedOut % 2 ^ 16 ∧ fieldAt r.bytes 21 2 = r.released % 2 ^ 16 ∧
    fieldAt r.bytes 23 8 = r.key.toNat ∧ fieldAt r.bytes 31 8 = r.openTime.toNat ∧ fieldAt r.bytes 39 8 = r.closeTime.toNat := by
  refine ⟨by simp [PackRecord.bytes], ?_⟩
  unfold PackRecord.bytes
  simp (disch := simp) only [fieldAt_left, fieldAt_skip]
  simp [fieldAt_alone, fieldAt_cons_zero, fieldAt_cons_succ, stationByte_toNat]
  omega

/-- An answer behind a FULL holder, where a round would admit nothing and QUIET is not due, is followed by nothing. -/
theorem State.settle_answer_noneToAdmit {s : State} (hfull : s.holderFull) (hnone : s.noneToAdmit) (hquiet : s.quietNow = false)
    (st : Status) (data : List Byte) : (s.answer st data).settle = (s.answer st data).withWake false := by
  obtain ⟨counters, hanswer, -⟩ := s.answer_eq st data
  rw [hanswer]
  exact State.settle_noneToAdmit hfull hnone hquiet

/-- The state with a queue of pack records. -/
def State.withRecords (s : State) (rs : List PackRecord) : State := s.withMgt { s.mgt with records := rs }

/-- TAKE_RECORD with a record queued, where nothing follows but a round that admits nothing (R205). -/
theorem exec_takeRecord {s : State} {r : PackRecord} {rest : List PackRecord} (params : List Byte) (hself : s.mgt.run ≠ .selftest)
    (hr : s.mgt.restarting = false) (hrecords : s.mgt.records = r :: rest) (hfull : s.holderFull) (hnone : s.noneToAdmit)
    (hquiet : s.quietNow = false) : exec (.takeRecord params) s = .next ((s.begin.withRecords rest).answer .done r.bytes) := by
  have htake : s.begin.takeRecord = ((s.begin.withRecords rest).wakeUp.answer .done r.bytes).settle := by
    rw [State.takeRecord, State.command_acts (s := s.begin) hself hr rfl]
    simp only [State.begin_mgt, hrecords]
    rfl
  have hsettle := State.settle_answer_noneToAdmit (s := (s.begin.withRecords rest).wakeUp) hfull hnone hquiet .done r.bytes
  rw [← State.answer_withWake] at hsettle
  exact congrArg Host.Outcome.next (htake.trans hsettle)

/-- Settles O52: the record is returned field by field, and what the taking leaves of the queue stands in the attention output. -/
theorem takeRecord : Obligations.TakeRecord := by
  refine ⟨State.attention_iff, fun params r rest s hself hr hrecords hfull hnone hquiet => ?_⟩
  obtain ⟨hlen, hstation, hepoch, hseq, houtcome, hcause, hrest⟩ := r.bytes_fields
  refine ⟨_, exec_takeRecord params hself hr hrecords hfull hnone hquiet, ?_, hlen, hstation, hepoch, hseq,
    houtcome.trans (PackOutcome.code_toNat _), hcause.trans (PackOutcome.causeCode_toNat _), hrest⟩
  rw [State.attention_iff, (State.answer_frame _ _ _).2.2.2]

end Sys2Proof.Machine

/-! ## One step: the waiting command, or what the part does by itself (log entries 1 and 32) -/

namespace Sys2Proof.Machine

section
variable {s : State}

theorem step_front {c : Instr} {rest : List Instr} (hp : s.pending = c :: rest) : step s = exec c (s.withPending rest) := by
  rw [step, hp]

theorem step_noPending (hp : s.pending = []) : step s = .next s.idle := by
  rw [step, hp]

theorem State.idle_haltDue (hhalt : s.haltDue = true) : s.idle = s.withPending [.entryToHalted] := if_pos hhalt

/-- With no report of R154 due and no issue to make, time passes. -/
theorem State.idle_noIssue (hhalt : s.haltDue = false) (hissue : s.begin.nextIssue = none) : s.idle = s.tick := by
  rw [State.idle, if_neg (Bool.eq_false_iff.1 hhalt), hissue]

theorem State.tick_stopped (hclock : s.mgt.clock = none) : s.tick = s := by
  rw [State.tick, hclock]

/-- A millisecond passes, and the timers queued are those due at the new reading. -/
theorem State.tick_running {t : Nat} (hclock : s.mgt.clock = some t) :
    s.tick = (s.withMgt { s.mgt with clock := some (t + 1) }).withPending
      (s.withMgt { s.mgt with clock := some (t + 1) }).dueCommands := by
  rw [State.tick, hclock]

end

/-- Settles O1: the command in front is the one taken, and the queue's rest replaces the whole queue. -/
theorem stepRunsFront : Obligations.StepRunsFront :=
  fun c rest s => step_front (s := s.withPending (c :: rest)) rfl

/-- Settles O2, along the choice of the idle step: the report of R154, the next issue, a stopped clock, a running one. -/
theorem stepIdle : Obligations.StepIdle := by
  refine fun s hp => ⟨fun hhalt => ?_, fun t hhalt hissue => ?_, fun hhalt hissue hclock => ?_, fun t hhalt hissue hclock => ?_⟩
  · rw [step_noPending hp, State.idle_haltDue hhalt]
    rfl
  · exact step_nextIssue hp hhalt hissue
  · rw [step_noPending hp, State.idle_noIssue hhalt hissue, State.tick_stopped hclock]
  · rw [step_noPending hp, State.idle_noIssue hhalt hissue, State.tick_running hclock]
    rfl

end Sys2Proof.Machine
